-- ==== Sys2Proof/Word.lean ====
section
/-! DEFINITION. The word types of the PF-4812: a byte of the links and a 24-bit audio sample. -/

namespace Sys2Proof

/-- One byte: a character of the command link, a byte of a lane frame or of TC_OUT (R166, R182). -/
abbrev Byte := BitVec 8

/-- One audio sample, 24-bit two's complement, −8,388,608 to +8,388,607 (R1). -/
abbrev Sample := BitVec 24

end Sys2Proof
end

