-- ==== Sys2Proof/Syntax.lean ====
section
/-! DEFINITION. The commands: one constructor of `Instr` for each row of spec/opcode_table.json,
with the operands that the outside of the part supplies at that step. -/

namespace Sys2Proof

/-- A rig, named after the physical lane it arrives on (R1, Naming). -/
inductive Rig where
  | a
  | b
  deriving DecidableEq, Repr

/-- A panel contact (R135). -/
inductive Contact where
  | contactA
  | contactB
  | contactFree
  deriving DecidableEq, Repr

/-- How a request was opened: to this unit's address, or to the broadcast address 31 (R167). -/
inductive Via where
  | addressed
  | broadcast
  deriving DecidableEq, Repr

/-- Where the block boundary of a block's 48th sample period is taken (assumption log 47): after the period,
by its row or as the next one begins; before both the period's markers and its ramp advance; or between the
markers and the advance. Between the markers of the two rigs it is never taken (R87: DESIGN CHOICE, assumption
log 57). -/
inductive BoundaryPlace where
  | last
  | first
  | between
  deriving DecidableEq, Repr

/-- The orders that the spec leaves open inside one core sample period; whoever sends the
command chooses each of them (assumption log 10, 47).

`ofLast`: how many of the arrivals from outside since the last core sample period that began a ramp fell
in that last period, the first of them counted first: their ramps advance in this one. The later arrivals
fall in this period, before its ramp advance, and the ramps they began do not advance in it (R141, R142,
R147). A ramp begun at what fell due by the count of the last period always advances in this one.
`rigBFirst`: rig B's frame is taken before rig A's (R39, R71).
`timeoutFirstA`, `timeoutFirstB`: a marker timeout of that rig in this period is taken before its good
marker of the same period (R15).
`advanceLast`: the period's markers are taken before the ramps advance (R147).
`boundary`: where the block boundary is taken, if the period is the block's 48th (R46, R87, R112, R147).
`contactsFirst`: of the closures and openings that a block completion brings, those taken before its handover,
in this order, where the command makes the completion: within the period, or as the last period's that no row
has made (R134; assumption log 56), with nothing between them and that handover (DESIGN CHOICE, assumption log 58).
`contacts`: the closures and openings that a boundary within the period brings and that are taken with it, in
this order, after its handover; the others are taken after the period (R138, R147).
`clears`: the rigs the end of whose CLOCK, where its age reaches 480,000 in this period, is taken before the
period's slips, in this order (R35).
`storeFirst`: the end of a save, an erase or an erase phase that falls in this period is taken before the
period's entries into FADING, those at `clears` among them (R186). -/
structure Orders where
  ofLast : Nat := 0
  rigBFirst : Bool := false
  timeoutFirstA : Bool := false
  timeoutFirstB : Bool := false
  advanceLast : Bool := false
  boundary : BoundaryPlace := .last
  contactsFirst : List Contact := []
  contacts : List Contact := []
  clears : List Rig := []
  storeFirst : Bool := false
  deriving DecidableEq, Repr

/-- Whether a rig's timeout comes before its marker of the same period (R15). -/
def Orders.timeoutFirst (o : Orders) : Rig → Bool
  | .a => o.timeoutFirstA
  | .b => o.timeoutFirstB

/-- Whether the end of a rig's CLOCK comes before the slips of the same period (R35). -/
def Orders.clearFirst (o : Orders) (x : Rig) : Bool := o.clears.contains x

/-- The commands of the part, one per row of the opcode table.

A request row carries how the request was opened and its body, 0 to 59 bytes (R168); the other
operands are what the lanes, the pins and the link bring. -/
inductive Instr where
  /-- RESET_ASSERT (R172). -/
  | resetAssert
  /-- RESET_RELEASE (R190), with the levels of the ADDR and RATE straps. -/
  | resetRelease (addr : BitVec 5) (rate : BitVec 2)
  /-- POWER_LOSS (R183). -/
  | powerLoss
  /-- CORE_SAMPLE_PERIOD (R43). -/
  | coreSamplePeriod (o : Orders)
  /-- LANE_FRAME (R3): a frame ends on a lane. `delimited`: its delimiter stands where the previous
  frame's end places it; `bytes`: the bytes after the delimiter. -/
  | laneFrame (x : Rig) (delimited : Bool) (bytes : List Byte)
  /-- MISSING_FRAME (R2). -/
  | missingFrame (x : Rig)
  /-- MARKER_TIMEOUT (R15). -/
  | markerTimeout (x : Rig)
  /-- RIG_STATUS, request 0x30 (R22). -/
  | rigStatus (v : Via) (body : List Byte)
  /-- RIG_CLEAR, request 0x31 (R23). -/
  | rigClear (v : Via) (body : List Byte)
  /-- RESTORE_TIMER_COMPLETE (R28). -/
  | restoreTimerComplete (x : Rig)
  /-- CLOCK_SET, request 0x34 (R29). -/
  | clockSet (v : Via) (body : List Byte)
  /-- CLOCK_FAULT_CLEAR (R35). -/
  | clockFaultClear (x : Rig)
  /-- SHOW_SET, request 0x38 (R37). -/
  | showSet (v : Via) (body : List Byte)
  /-- BLOCK_COMPLETION (R82), with the raw levels of the three contacts (true: closed, R135). -/
  | blockCompletion (closedA closedB closedFree : Bool)
  /-- SEG_INSERT, request 0x40 (R65). -/
  | segInsert (v : Via) (body : List Byte)
  /-- SEG_AMEND, request 0x41 (R67). -/
  | segAmend (v : Via) (body : List Byte)
  /-- SEG_RETIRE, request 0x42 (R69). -/
  | segRetire (v : Via) (body : List Byte)
  /-- SEG_FIND, request 0x43 (R73). -/
  | segFind (v : Via) (body : List Byte)
  /-- SEG_LOCATE, request 0x44 (R74). -/
  | segLocate (v : Via) (body : List Byte)
  /-- MAP_STATUS, request 0x48 (R75). -/
  | mapStatus (v : Via) (body : List Byte)
  /-- MAP_CLEAR, request 0x45 (R76). -/
  | mapClear (v : Via) (body : List Byte)
  /-- CURSOR_SET, request 0x46 (R79). -/
  | cursorSet (v : Via) (body : List Byte)
  /-- CURSOR_NEXT, request 0x47 (R80). -/
  | cursorNext (v : Via) (body : List Byte)
  /-- WATCH_STATUS, request 0x50 (R94). -/
  | watchStatus (v : Via) (body : List Byte)
  /-- GROUP_SET, request 0x58 (R97). -/
  | groupSet (v : Via) (body : List Byte)
  /-- GROUP_ASSIGN, request 0x59 (R100). -/
  | groupAssign (v : Via) (body : List Byte)
  /-- MODE_SET, request 0x60 (R102). -/
  | modeSet (v : Via) (body : List Byte)
  /-- HOLD_OFF_EXPIRY (R111, R113): the handover at which hold-off counts reach 0, ahead of the rest of
  its block completion. -/
  | holdOffExpiry
  /-- LANDING (R116) of one group's ramp. -/
  | landing (g : Fin 12)
  /-- RETURN_TIMER_EXPIRY (R120, R121): the handover at which return timers reach RETURN_DELAY, ahead of
  the rest of its block completion. -/
  | returnTimerExpiry
  /-- GROUP_HOME, request 0x5C (R122). -/
  | groupHome (v : Via) (body : List Byte)
  /-- GROUP_STATUS, request 0x5A (R124). -/
  | groupStatus (v : Via) (body : List Byte)
  /-- GROUP_CLEAR, request 0x5B (R125). -/
  | groupClear (v : Via) (body : List Byte)
  /-- GROUP_PIN, request 0x5D (R129). -/
  | groupPin (v : Via) (body : List Byte)
  /-- GROUP_UNPIN, request 0x5E (R133). -/
  | groupUnpin (v : Via) (body : List Byte)
  /-- CONTACT_CLOSURE (R135). -/
  | contactClosure (c : Contact)
  /-- CONTACT_OPENING (R135). -/
  | contactOpening (c : Contact)
  /-- TC_SET, request 0x68 (R153). -/
  | tcSet (v : Via) (body : List Byte)
  /-- TC_CADENCE_MARKER (R161). -/
  | tcCadenceMarker
  /-- FREEWHEEL_LIMIT_REACHED (R162). -/
  | freewheelLimitReached
  /-- ADDRESS_CHARACTER (R167): a character with its ninth bit set; `stopOk`: its stop bit is found
  where it is due (R166). -/
  | addressCharacter (value : Byte) (stopOk : Bool)
  /-- DATA_CHARACTER (R168): a character with its ninth bit clear. -/
  | dataCharacter (value : Byte) (stopOk : Bool)
  /-- CHARACTER_GAP (R169). -/
  | characterGap
  /-- DRAIN_QUIET (R170). -/
  | drainQuiet
  /-- REPLY_START (R172). -/
  | replyStart
  /-- REPLY_END (R172), with the levels of the straps, which a RESTART samples afresh (R166, R177). -/
  | replyEnd (addr : BitVec 5) (rate : BitVec 2)
  /-- IDENTIFY, request 0x01 (R175). -/
  | identify (v : Via) (body : List Byte)
  /-- STATUS, request 0x02 (R176). -/
  | status (v : Via) (body : List Byte)
  /-- RESTART, request 0x0F (R177). -/
  | restart (v : Via) (body : List Byte)
  /-- NOTICE_READ, request 0x08 (R179). -/
  | noticeRead (v : Via) (body : List Byte)
  /-- NOTICE_MASK, request 0x09 (R180). -/
  | noticeMask (v : Via) (body : List Byte)
  /-- SLOT_SAVE, request 0x70 (R184). -/
  | slotSave (v : Via) (body : List Byte)
  /-- SAVE_ERASE_PHASE_END (R185). -/
  | saveErasePhaseEnd
  /-- SAVE_COMPLETION (R185). -/
  | saveCompletion
  /-- SLOT_ERASE, request 0x71 (R187). -/
  | slotErase (v : Via) (body : List Byte)
  /-- ERASE_COMPLETION (R187). -/
  | eraseCompletion
  /-- SLOT_LOAD, request 0x72 (R188). -/
  | slotLoad (v : Via) (body : List Byte)
  /-- SLOT_INFO, request 0x73 (R189). -/
  | slotInfo (v : Via) (body : List Byte)
  /-- SLOT_LOCK, request 0x74 (R189). -/
  | slotLock (v : Via) (body : List Byte)
  /-- SLOT_BOOT, request 0x75 (R189). -/
  | slotBoot (v : Via) (body : List Byte)
  /-- POWER_UP (R190), with the levels of the straps. -/
  | powerUp (addr : BitVec 5) (rate : BitVec 2)
  deriving DecidableEq, Repr

end Sys2Proof
end

