-- ==== Sys2Proof/Decode.lean ====
section
/-! DEFINITION. The command that a word spells. The opcode table of this part gives no row any bits
(every row's "fields" is empty): its commands are arrivals at pins, lanes and the command link, and
no word spells one. -/

namespace Sys2Proof

/-- The command a table word spells: none, since no row of the table has bits (assumption log 42). -/
def decodeTableWord (_nbits _w : Nat) : Option Instr := none

end Sys2Proof
end

