-- ==== Sys2Proof/Machine/Types.lean ====
section
/-! DEFINITION. The kinds of data the blocks of the part hold: the named sets of values, the records
and the settings. Counts and numbers with a stated range are `Nat` (or `Int`, where signed); their
ranges are kept by the operations. -/

namespace Sys2Proof.Machine

/-! ### Conventions (R1) -/

/-- The show rate: 24, 25 or 30 frames per second (R36). -/
inductive Rate where
  | r24
  | r25
  | r30
  deriving DecidableEq, Repr

/-- The show mode (R102). -/
inductive Mode where
  | standby
  | rehearsal
  | shows
  deriving DecidableEq, Repr

/-! ### Rig Port -/

/-- Lock state of a lane receiver (R3). -/
inductive Lock where
  | unlocked
  | locked
  deriving DecidableEq, Repr

/-- A rig's transport state as its good markers report it; the run state UNKNOWN is `none` of
`Option Transport` (R10). -/
inductive Transport where
  | playing
  | stopped
  | locating
  deriving DecidableEq, Repr

/-- The fault kinds of a rig (R19). -/
inductive FaultKind where
  | link
  | stall
  | jump
  | stopped
  | clock
  deriving DecidableEq, Repr

/-- A set of fault kinds: each present or absent. -/
structure FaultSet where
  link : Bool
  stall : Bool
  jump : Bool
  stopped : Bool
  clock : Bool
  deriving DecidableEq, Repr

/-- The delta set of a rig: one flag for each fault kind, one for RUN and one for ALIGN (R19). -/
structure DeltaSet where
  faults : FaultSet
  run : Bool
  align : Bool
  deriving DecidableEq, Repr

/-- A lane frame as it travels from the receiver to the core: 48 samples, the side byte, and the
substitute mark (R4). -/
structure Frame where
  audio : List Sample
  side : Byte
  substitute : Bool
  deriving DecidableEq, Repr

/-- State of a lane buffer (R31). -/
inductive BufferState where
  | idle
  | filling
  | running
  deriving DecidableEq, Repr

/-- The marker assembler (R7): hunting, or collecting with the bytes taken after SYNC, in order. -/
inductive Assembler where
  | hunting
  | collecting (bytes : List Byte)
  deriving DecidableEq, Repr

/-- One Rig Port: receiver, lane buffer, assembler, tracker and the rest of the status record
(R3, R7, R10, R19, R31, R35). -/
structure RigPort where
  lock : Lock
  goodRun : Nat
  badRun : Nat
  bufState : BufferState
  /-- The frames held by the lane buffer, oldest first; the fill is their number. -/
  frames : List Frame
  lastTaken : Frame
  /-- Remaining sample periods of a repeat in progress, 0 to 8. -/
  repeatLeft : Nat
  /-- Age of the most recent slip (R35). -/
  slipNewer : Option Nat
  /-- Age of the slip before it. -/
  slipOlder : Option Nat
  asm : Assembler
  fLast : Nat
  n : Nat
  run : Option Transport
  posValid : Bool
  recovery : Nat
  /-- Sequence base: held or absent. -/
  seqBase : Bool
  faults : FaultSet
  deltas : DeltaSet
  slips : Nat
  badMarkers : Nat
  deriving DecidableEq, Repr

/-! ### Clock Unit -/

/-- A clock source (R24). -/
inductive Source where
  | laneA
  | laneB
  | int
  deriving DecidableEq, Repr

/-- PREFERENCE: the three sources in order (R24). -/
structure Preference where
  first : Source
  second : Source
  third : Source
  deriving DecidableEq, Repr

/-- The Clock Unit. A restore timer that is stopped is `none` (R27). -/
structure ClockUnit where
  preference : Preference
  current : Source
  timerA : Option Nat
  timerB : Option Nat
  deriving DecidableEq, Repr

/-! ### Alignment Unit -/

/-- The show settings (R36). -/
structure ShowSettings where
  rate : Rate
  alignTol : Nat
  jumpTol : Nat
  recovery : Nat
  deriving DecidableEq, Repr

/-- The Alignment Unit: settings, offset D, skew S and the delay lines. A delay line holds the last
512 sets of 48 samples, newest first (R43). -/
structure AlignmentUnit where
  settings : ShowSettings
  d : Option Int
  stale : Bool
  s : Int
  pendingSkew : Option Int
  aligned : Bool
  lineA : List (List Sample)
  lineB : List (List Sample)
  deriving DecidableEq, Repr

/-! ### Segment Map -/

/-- An expectation (R55). -/
inductive Expect where
  | active
  | quiet
  | any
  deriving DecidableEq, Repr

/-- A segment's policy (R54). -/
inductive Policy where
  | auto
  | manualOnly
  deriving DecidableEq, Repr

/-- The terms of a segment record that the host gives, without its STATE (R54). -/
structure Segment where
  id : Nat
  start : Nat
  length : Nat
  tail : Nat
  policy : Policy
  fade : Option Nat
  expect : List (Fin 12 × Expect)
  label : List Byte
  deriving DecidableEq, Repr

/-- A record of the map: its terms and STATE (LIVE, or RETIRING). -/
structure SegRecord where
  seg : Segment
  retiring : Bool
  deriving DecidableEq, Repr

/-- The Segment Map. The current segment of a rig is the SEG_ID of the record it holds, or `none`
for gap (R58). -/
structure SegMap where
  recs : List SegRecord
  heldA : Option Nat
  heldB : Option Nat
  generation : Nat
  cursorIndex : Nat
  cursorGen : Nat
  deriving DecidableEq, Repr

/-! ### Activity Watch -/

/-- The Watch's state for one group (R84). -/
structure GroupWatch where
  runA : Nat
  runB : Nat
  peakA : Nat
  peakB : Nat
  mismatchA : Bool
  mismatchB : Bool
  armed : Bool
  deriving DecidableEq, Repr

/-- The Activity Watch: the running peak of each channel on each rig, in channel order (R82), and
the state of each group. -/
structure ActivityWatch where
  peaksA : List Nat
  peaksB : List Nat
  groups : Vector GroupWatch 12
  deriving DecidableEq, Repr

/-! ### Group Engine -/

/-- The RETURN setting (R96). -/
inductive ReturnMode where
  | manual
  | autoInGap
  deriving DecidableEq, Repr

/-- The nine settings of a group (R96). -/
structure GroupSettings where
  home : Rig
  fadeLen : Nat
  holdOff : Nat
  threshold : Nat
  quietWindow : Nat
  defaultExpect : Expect
  returnMode : ReturnMode
  returnDelay : Nat
  panel : Bool
  deriving DecidableEq, Repr

/-- When a ramp began, against the core sample periods (R141; assumption log 10, 12): `older`, in a
sample period before the last one counted; `thisPeriod`, in the one whose ramp advance it must wait out;
`sinceLast 0`, at what fell due by the count of the last one; `sinceLast (n + 1)`, at the (n + 1)-th
arrival from outside since the last one that began a ramp, which the next one's `Orders` place. -/
inductive RampAge where
  | older
  | sinceLast (n : Nat)
  | thisPeriod
  deriving DecidableEq, Repr

/-- A ramp under way (R141). -/
structure Ramp where
  startWeight : Nat
  length : Nat
  step : Nat
  age : RampAge
  deriving DecidableEq, Repr

/-- The state of a group with the fields present only in it (R105). DEST is the other rig of
SOURCE. -/
inductive GroupState where
  | settled
  | confirming (count : Nat)
  | fading (ramp : Ramp)
  | stranded
  | held
  deriving DecidableEq, Repr

/-- The group record and the group's settings (R96, R105). `returnExpired` is the outcome of the
return timer's last comparison with RETURN_DELAY (R98, R120; assumption log 19). -/
structure Group where
  settings : GroupSettings
  state : GroupState
  source : Rig
  pinned : Bool
  returnCount : Nat
  returnExpired : Bool
  glitches : Nat
  reported : Bool
  deriving DecidableEq, Repr

/-! ### Panel Interface -/

/-- One contact: its raw level as last read, its debounced state, its change count and its closure
count (R135). -/
structure PanelContact where
  rawClosed : Bool
  closed : Bool
  change : Nat
  closures : Nat
  deriving DecidableEq, Repr

/-- The three contacts. -/
structure Panel where
  a : PanelContact
  b : PanelContact
  free : PanelContact
  deriving DecidableEq, Repr

/-! ### Timecode Generator -/

/-- END_MODE (R153). -/
inductive EndMode where
  | hold
  | silent
  | runOn
  deriving DecidableEq, Repr

/-- The timecode settings (R153). -/
structure TcSettings where
  enable : Bool
  leader : Fin 12
  freewheelLimit : Nat
  endMode : EndMode
  deriving DecidableEq, Repr

/-- State of the generator (R157). Pending is FOLLOW with F_out absent. -/
inductive TcState where
  | off
  | follow
  | freewheel
  | hold
  | silent
  | runOn
  deriving DecidableEq, Repr

/-- The Timecode Generator. `sending` holds the bytes still to be sent of the marker in progress;
`owed` says that a crossing's marker waits for another to end (R156); `begunAhead` that the coming
sample period begins a marker already taken by TC_CADENCE_MARKER (assumption log 12). -/
structure Timecode where
  settings : TcSettings
  state : TcState
  fOut : Option Nat
  runSent : Transport
  cadence : Nat
  freewheelCount : Nat
  followed : Rig
  sending : List Byte
  owed : Bool
  begunAhead : Bool
  deriving DecidableEq, Repr

/-! ### Link Controller -/

/-- The cause of a move or of a report (R106, R115, R182). -/
inductive Cause where
  | link
  | stall
  | jump
  | stopped
  | clock
  | quiet
  | home
  | pin
  | panel
  deriving DecidableEq, Repr

/-- The outcome of a STORE notice (R178). -/
inductive StoreOutcome where
  | saved
  | erased
  | abandoned
  | bootEmpty
  | bootFailed
  deriving DecidableEq, Repr

/-- The eight notice kinds, highest priority first (R178). -/
inductive NoticeKind where
  | stranded
  | moved
  | rigChange
  | wouldMove
  | clockChange
  | bothQuiet
  | retired
  | store
  deriving DecidableEq, Repr

/-- An occurrence of a notice: its kind and its detail (R178). -/
inductive NoticeDetail where
  | stranded (g : Fin 12) (rig : Rig)
  | moved (g : Fin 12) (src dest : Rig) (cause : Cause)
  | rigChange (a b : Bool)
  | wouldMove (g : Fin 12) (cause : Cause)
  | clockChange (source : Source)
  | bothQuiet (g : Fin 12)
  | retired (id : Nat)
  | store (slot : Option (Fin 8)) (outcome : StoreOutcome)
  deriving DecidableEq, Repr

/-- A pending entry of the notice set: the latest detail and the count, 1 to 255. A clear entry is
`none` (R178). -/
structure Notice where
  detail : NoticeDetail
  count : Nat
  deriving DecidableEq, Repr

/-- Result codes (R174). -/
inductive Result where
  | ok
  | adjusted
  | accepted
  | endOfWalk
  | badCheck
  | badLength
  | unknown
  | badValue
  | notFound
  | duplicateId
  | overlap
  | mapFull
  | wrongMode
  | wrongState
  | busy
  | locked
  | damaged
  | staleCursor
  | groupFading
  | notReady
  deriving DecidableEq, Repr

/-- The reply to an addressed request, fixed at execution (R171): `started` once the part drives the
link with it (R172), `restarts` when its end takes a RESTART (R177). -/
structure Reply where
  code : Byte
  result : Result
  body : List Byte
  started : Bool
  restarts : Bool
  deriving DecidableEq, Repr

/-- The receiver's state; COLLECTING holds the collection kind and the partial request (R167). -/
inductive Receiver where
  | idle
  | collecting (via : Via) (part : List Byte)
  | draining
  | replying
  deriving DecidableEq, Repr

/-- The Link Controller. -/
structure Link where
  unitAddr : BitVec 5
  rateStrap : BitVec 2
  rx : Receiver
  reply : Option Reply
  errors : Nat
  notices : Vector (Option Notice) 8
  mask : Byte
  deriving DecidableEq, Repr

/-! ### Show Store -/

/-- The saved configuration (R183). -/
structure ShowContents where
  show' : ShowSettings
  preference : Preference
  tc : TcSettings
  groups : Vector GroupSettings 12
  members : Vector (Fin 12) 48
  segs : List Segment
  deriving DecidableEq, Repr

/-- Contents as stored, with the sum recorded when their write completed (R183). -/
structure Stored where
  contents : ShowContents
  sum : BitVec 16
  deriving DecidableEq, Repr

/-- State of a slot (R183). -/
inductive SlotState where
  | empty
  | valid
  | damaged
  | writing
  deriving DecidableEq, Repr

/-- A slot of the Show Store (R183). -/
structure Slot where
  state : SlotState
  locked : Bool
  label : List Byte
  stored : Option Stored
  deriving DecidableEq, Repr

/-- What the store is doing, with the sample periods gone by in the phase (R185, R187). -/
inductive Activity where
  | idle
  | saveErase (slot : Fin 8) (snapshot : ShowContents) (elapsed : Nat)
  | saveWrite (slot : Fin 8) (snapshot : ShowContents) (elapsed : Nat)
  | erase (slot : Fin 8) (elapsed : Nat)
  deriving DecidableEq, Repr

/-- The Show Store: the nonvolatile slots and directory, and the activity, which is volatile. -/
structure Store where
  slots : Vector Slot 8
  boot : Option (Fin 8)
  activity : Activity
  deriving DecidableEq, Repr

end Sys2Proof.Machine
end

