-- ==== Sys2Proof/Config.lean ====
section
/-! DEFINITION. What the spec leaves open and the model leaves free. -/

namespace Sys2Proof

/-- The content bytes of a saved configuration as the store writes them. R183 says that the content
sum is taken over these bytes and gives no layout for them, so they are a FREE VALUE: no body, and
nothing can be proved of them (assumption log 13). -/
opaque Config.contentBytes : Machine.ShowContents → List Byte

end Sys2Proof
end

