-- ==== Sys2Proof/Machine/State.lean ====
section
/-! DEFINITION. State: the part's blocks and the queue of waiting commands; the reset values; the
reasons a step can stop. -/

namespace Sys2Proof.Machine

/-- Everything the part holds, block by block. -/
structure Part where
  /-- Power is present (R183, R190). -/
  powered : Bool
  /-- The RESET pin is held (R149, R156, R181). -/
  resetHeld : Bool
  /-- Sample periods of the block in progress, 0 to 48; at 48 a block completion is due (R1, R82). -/
  blockPhase : Nat
  /-- The handover of the block completion that is due has been made ahead of the rest of it (assumption
  log 11). -/
  handedOver : Bool
  /-- The coming core sample period's work has begun (assumption log 12). -/
  early : Bool
  rigA : RigPort
  rigB : RigPort
  clock : ClockUnit
  align : AlignmentUnit
  map : SegMap
  watch : ActivityWatch
  mode : Mode
  groups : Vector Group 12
  /-- The group of each channel (R99). -/
  members : Vector (Fin 12) 48
  /-- The 48 slots of OUT_LANE's latest frame, `none` while no frame is sent (R149). -/
  outLane : Option (List Sample)
  panel : Panel
  tc : Timecode
  /-- The byte of TC_OUT in the latest sample period, `none` while the line carries nothing (R156). -/
  tcOut : Option Byte
  link : Link
  store : Store
  deriving DecidableEq, Repr

/-- The machine: the part, and the commands that wait, first in first out. -/
structure State where
  part : Part
  pending : List Instr
  deriving DecidableEq, Repr

/-- The reasons a step can stop with a fault: none. Every condition the part detects is state of the
part (a fault set, a notice, a result code), so no command stops it (assumption log 38). Safe. -/
inductive Fault where
  deriving DecidableEq, Repr

/-- The reasons a command can be refused. -/
inductive Refusal where
  /-- Raised by `exec` alone, for a command that has no meaning yet; no arm raises it. Safe. -/
  | notModelled (mnemonic : String)
  deriving DecidableEq, Repr

/-! ### Values after pin reset and RESTART -/

/-- The empty fault set. -/
def FaultSet.empty : FaultSet := ⟨false, false, false, false, false⟩

/-- The empty delta set. -/
def DeltaSet.empty : DeltaSet := ⟨FaultSet.empty, false, false⟩

/-- 48 zero samples. -/
def silentAudio : List Sample := List.replicate 48 0

/-- A silent frame with an idle side byte, without the substitute mark (R4, R31). -/
def Frame.silent : Frame := ⟨silentAudio, 0, false⟩

/-- A Rig Port after reset (R3, R7, R10, R21, R31, R35). -/
def RigPort.reset : RigPort where
  lock := .unlocked
  goodRun := 0
  badRun := 0
  bufState := .idle
  frames := []
  lastTaken := Frame.silent
  repeatLeft := 0
  slipNewer := none
  slipOlder := none
  asm := .hunting
  fLast := 0
  n := 0
  run := none
  posValid := false
  recovery := 0
  seqBase := false
  faults := { FaultSet.empty with link := true }
  deltas := DeltaSet.empty
  slips := 0
  badMarkers := 0

/-- The Clock Unit after reset (R24). -/
def ClockUnit.reset : ClockUnit := ⟨⟨.laneA, .laneB, .int⟩, .int, none, none⟩

/-- The show settings after reset (R36). -/
def ShowSettings.reset : ShowSettings := ⟨.r25, 4, 1, 25⟩

/-- A delay line filled with zero samples (R43). -/
def silentLine : List (List Sample) := List.replicate 512 silentAudio

/-- The Alignment Unit after reset (R36, R42, R43, R50, R51). -/
def AlignmentUnit.reset : AlignmentUnit where
  settings := ShowSettings.reset
  d := none
  stale := false
  s := 0
  pendingSkew := none
  aligned := false
  lineA := silentLine
  lineB := silentLine

/-- The Segment Map after reset (R81). -/
def SegMap.reset : SegMap := ⟨[], none, none, 0, 0, 0⟩

/-- The Watch's state of a group after reset and after a restart of its quiet runs (R86, R95). -/
def GroupWatch.reset : GroupWatch := ⟨0, 0, 0, 0, false, false, true⟩

/-- 48 running peaks at 0. -/
def zeroPeaks : List Nat := List.replicate 48 0

/-- The Activity Watch after reset (R95). -/
def ActivityWatch.reset : ActivityWatch := ⟨zeroPeaks, zeroPeaks, Vector.replicate 12 GroupWatch.reset⟩

/-- The default settings of a group (R96). -/
def GroupSettings.default : GroupSettings where
  home := .a
  fadeLen := 480
  holdOff := 20
  threshold := 2107
  quietWindow := 2000
  defaultExpect := .any
  returnMode := .manual
  returnDelay := 30
  panel := true

/-- A group SETTLED on a rig with nothing counted or pinned (R105, R128). -/
def Group.settledOn (settings : GroupSettings) (x : Rig) : Group :=
  ⟨settings, .settled, x, false, 0, false, 0, false⟩

/-- A contact after reset (R135); its raw level is the pin's own. -/
def PanelContact.reset (rawClosed : Bool) : PanelContact := ⟨rawClosed, false, 0, 0⟩

/-- The timecode settings after reset (R153). -/
def TcSettings.reset : TcSettings := ⟨true, 0, 50, .hold⟩

/-- The Timecode Generator after reset: FOLLOW, pending, following rig A (R157). -/
def Timecode.reset : Timecode where
  settings := TcSettings.reset
  state := .follow
  fOut := none
  runSent := .playing
  cadence := 0
  freewheelCount := 0
  followed := .a
  sending := []
  owed := false
  begunAhead := false

/-- The Link Controller after reset, with the straps just sampled (R166, R178). -/
def Link.reset (addr : BitVec 5) (rate : BitVec 2) : Link :=
  ⟨addr, rate, .idle, none, 0, Vector.replicate 8 none, 0⟩

/-- A slot as the part leaves manufacture (R183). -/
def Slot.manufactured : Slot := ⟨.empty, false, [], none⟩

/-- The store as the part leaves manufacture: every slot EMPTY, boot slot none (R183). -/
def Store.manufactured : Store := ⟨Vector.replicate 8 Slot.manufactured, none, .idle⟩

/-- Every block at its values after pin reset and RESTART (step 1 of R190), with the store, the raw
contact levels and the block phase given. The output lane carries zero samples and TC_OUT the idle
byte (R150, R156). -/
def Part.afterReset (addr : BitVec 5) (rate : BitVec 2) (phase : Nat)
    (rawA rawB rawFree : Bool) (store : Store) : Part where
  powered := true
  resetHeld := false
  blockPhase := phase
  handedOver := false
  early := false
  rigA := RigPort.reset
  rigB := RigPort.reset
  clock := ClockUnit.reset
  align := AlignmentUnit.reset
  map := SegMap.reset
  watch := ActivityWatch.reset
  mode := .standby
  groups := Vector.replicate 12 (Group.settledOn GroupSettings.default .a)
  members := Vector.replicate 48 0
  outLane := some silentAudio
  panel := ⟨PanelContact.reset rawA, PanelContact.reset rawB, PanelContact.reset rawFree⟩
  tc := Timecode.reset
  tcOut := some 0
  link := Link.reset addr rate
  store := { store with activity := .idle }

/-- The levels of the ADDR and RATE straps that `State.reset` takes: unit 5, as in the worked
transaction of the command link chapter, at 38,400 bit/s. DESIGN CHOICE: the spec gives no strap
levels (assumption log 2); unsafe. -/
def resetStraps : BitVec 5 × BitVec 2 := (5, 0)

/-- The machine right after the release of RESET on a part as it leaves manufacture: every block at
its values after pin reset, and start-up done, which found no boot slot and raised STORE with
BOOT_EMPTY (R190; assumption log 1). The contacts stand open (assumption log 3). No command waits. -/
def State.reset : State where
  part :=
    let p := Part.afterReset resetStraps.1 resetStraps.2 0 false false false Store.manufactured
    { p with link := { p.link with
        notices := p.link.notices.set 7 (some ⟨.store none .bootEmpty, 1⟩) } }
  pending := []

end Sys2Proof.Machine
end

