-- ==== Sys2Proof/Machine/Operands.lean ====
section
/-! DEFINITION. The part's fixed quantities, and the layouts of everything that crosses its boundary:
lane frames, markers, record bodies, settings bodies and the codes shared by several layouts (R1,
R182). -/

namespace Sys2Proof.Machine

/-! ### Fixed quantities -/

/-- All twelve groups, in ascending number. -/
def allGroups : List (Fin 12) := [0, 1, 2, 3, 4, 5, 6, 7, 8, 9, 10, 11]

/-- All 48 channels, in ascending number. -/
def allChannels : List (Fin 48) :=
  [0, 1, 2, 3, 4, 5, 6, 7, 8, 9, 10, 11, 12, 13, 14, 15, 16, 17, 18, 19, 20, 21, 22, 23] ++
  [24, 25, 26, 27, 28, 29, 30, 31, 32, 33, 34, 35, 36, 37, 38, 39, 40, 41, 42, 43, 44, 45, 46, 47]

/-- All eight slots of the store. -/
def allSlots : List (Fin 8) := [0, 1, 2, 3, 4, 5, 6, 7]

/-- The places of all eight notice kinds. -/
def allKinds : List (Fin 8) := [0, 1, 2, 3, 4, 5, 6, 7]

/-- Frames per second of a show rate (R36). -/
def Rate.fps : Rate → Nat
  | .r24 => 24
  | .r25 => 25
  | .r30 => 30

/-- SPF, the samples per frame (R1). -/
def Rate.spf : Rate → Nat
  | .r24 => 2000
  | .r25 => 1920
  | .r30 => 1600

/-- The day frames, 86,400 × rate (R1). -/
def Rate.dayFrames : Rate → Nat
  | .r24 => 2073600
  | .r25 => 2160000
  | .r30 => 2592000

/-- The day length L in samples (R1). -/
def dayLength : Nat := 4147200000

/-- Half the day length (R1, R40). -/
def halfDay : Nat := 2073600000

/-- The n at which a PLAYING rig times out, 3 × SPF + 7 (R15). -/
def Rate.timeoutAt (r : Rate) : Nat := 3 * r.spf + 7

/-- The largest n at which a rig's next marker is not late, SPF + 7 (R39). -/
def Rate.lateBound (r : Rate) : Nat := r.spf + 7

/-- RESTORE, in sample periods (R24). -/
def restorePeriods : Nat := 240000

/-- The age at which a slip history stops and CLOCK clears (R35). -/
def slipAgeLimit : Nat := 480000

/-- Unity weight (R1). -/
def unity : Nat := 32768

/-- Length of the erase phase of a save, and of an erase (R185, R187). -/
def erasePeriods : Nat := 11520

/-- Length of a save's write phase with `r` records (R185). -/
def writePeriods (r : Nat) : Nat := 1920 + 36 * r

/-- The largest number of segment records (R56). -/
def mapCapacity : Nat := 160

/-- One up, saturating. -/
def bump (limit n : Nat) : Nat := min limit (n + 1)

/-- A number clamped to a range. -/
def clampNat (lo hi n : Nat) : Nat := max lo (min hi n)

/-- `Bool` as 0 or 1. -/
def bit (b : Bool) : Nat := if b then 1 else 0

/-- The other rig (R1, Naming). -/
def otherRig : Rig → Rig
  | .a => .b
  | .b => .a

/-- The clock source that a lane is (R24). -/
def laneSource : Rig → Source
  | .a => .laneA
  | .b => .laneB

/-! ### Numbers in bytes, most significant byte first (R182) -/

/-- One byte of a number. -/
def u8 (n : Nat) : Byte := BitVec.ofNat 8 n

/-- Two bytes of a number. -/
def be16 (n : Nat) : List Byte := [u8 (n / 256), u8 n]

/-- Three bytes of a number. -/
def be24 (n : Nat) : List Byte := [u8 (n / 65536), u8 (n / 256), u8 n]

/-- Four bytes of a number. -/
def be32 (n : Nat) : List Byte := [u8 (n / 16777216), u8 (n / 65536), u8 (n / 256), u8 n]

/-- A signed number in two bytes of two's complement. -/
def signed16 (i : Int) : List Byte := be16 (i % 65536).toNat

/-- A signed number in four bytes of two's complement. -/
def signed32 (i : Int) : List Byte := be32 (i % 4294967296).toNat

/-- The number two bytes carry. -/
def num2 (b1 b0 : Byte) : Nat := b1.toNat * 256 + b0.toNat

/-- The number three bytes carry. -/
def num3 (b2 b1 b0 : Byte) : Nat := b2.toNat * 65536 + b1.toNat * 256 + b0.toNat

/-- The sum of bytes, as a number. -/
def byteSum : List Byte → Nat
  | [] => 0
  | b :: bs => b.toNat + byteSum bs

/-- The CHECK that makes `bs` and itself sum to 0 mod 256 (R171, R172). -/
def checkFor (bs : List Byte) : Byte := u8 (256 - byteSum bs % 256)

/-- A group number from a byte, if it names a group. -/
def groupOf (b : Byte) : Option (Fin 12) := if h : b.toNat < 12 then some ⟨b.toNat, h⟩ else none

/-- A channel number from a byte, if it names a channel. -/
def channelOf (b : Byte) : Option (Fin 48) := if h : b.toNat < 48 then some ⟨b.toNat, h⟩ else none

/-- A slot number from a byte, if it names a slot. -/
def slotOf (b : Byte) : Option (Fin 8) := if h : b.toNat < 8 then some ⟨b.toNat, h⟩ else none

/-- Every element mapped, or none if one of them maps to none. -/
def allSome {α β : Type} (f : α → Option β) : List α → Option (List β)
  | [] => some []
  | x :: xs =>
    match f x, allSome f xs with
    | some y, some ys => some (y :: ys)
    | _, _ => none

/-- No element stands twice in a list. -/
def noRepeats {α : Type} [DecidableEq α] : List α → Bool
  | [] => true
  | x :: xs => !xs.contains x && noRepeats xs

/-! ### Codes shared by several layouts (R182) -/

/-- Rig code. -/
def rigCode : Rig → Byte
  | .a => 0
  | .b => 1

/-- The rig a code names. -/
def rigOf (b : Byte) : Option Rig := if b = 0 then some .a else if b = 1 then some .b else none

/-- Clock source code. -/
def Source.code : Source → Byte
  | .laneA => 0
  | .laneB => 1
  | .int => 2

/-- The clock source a code names. -/
def sourceOf (b : Byte) : Option Source :=
  if b = 0 then some .laneA else if b = 1 then some .laneB else if b = 2 then some .int else none

/-- Show mode code. -/
def Mode.code : Mode → Byte
  | .standby => 0
  | .rehearsal => 1
  | .shows => 2

/-- The show mode a code names. -/
def modeOf (b : Byte) : Option Mode :=
  if b = 0 then some .standby else if b = 1 then some .rehearsal else if b = 2 then some .shows else none

/-- Run state code of a known transport state. -/
def Transport.code : Transport → Byte
  | .playing => 1
  | .stopped => 2
  | .locating => 3

/-- The transport state a run code names (R9). -/
def transportOf (b : Byte) : Option Transport :=
  if b = 1 then some .playing else if b = 2 then some .stopped
  else if b = 3 then some .locating else none

/-- Run state code, UNKNOWN among them. -/
def runCode : Option Transport → Byte
  | none => 0
  | some t => t.code

/-- Expectation code. -/
def Expect.code : Expect → Byte
  | .active => 1
  | .quiet => 2
  | .any => 3

/-- The expectation a code names. -/
def expectOf (n : Nat) : Option Expect :=
  if n = 1 then some .active else if n = 2 then some .quiet else if n = 3 then some .any else none

/-- Policy code. -/
def Policy.code : Policy → Byte
  | .auto => 0
  | .manualOnly => 1

/-- The policy a code names. -/
def policyOf (b : Byte) : Option Policy :=
  if b = 0 then some .auto else if b = 1 then some .manualOnly else none

/-- Group state code. -/
def GroupState.code : GroupState → Byte
  | .settled => 0
  | .confirming _ => 1
  | .fading _ => 2
  | .stranded => 3
  | .held => 4

/-- Cause code. -/
def Cause.code : Cause → Byte
  | .link => 0
  | .stall => 1
  | .jump => 2
  | .stopped => 3
  | .clock => 4
  | .quiet => 5
  | .home => 6
  | .pin => 7
  | .panel => 8

/-- Cause code, 0xFF for none. -/
def causeCode : Option Cause → Byte
  | none => 0xFF
  | some c => c.code

/-- Timecode state code. -/
def TcState.code : TcState → Byte
  | .off => 0
  | .follow => 1
  | .freewheel => 2
  | .hold => 3
  | .silent => 4
  | .runOn => 5

/-- END_MODE code (R153). -/
def EndMode.code : EndMode → Byte
  | .hold => 0
  | .silent => 1
  | .runOn => 2

/-- The end mode a code names. -/
def endModeOf (b : Byte) : Option EndMode :=
  if b = 0 then some .hold else if b = 1 then some .silent else if b = 2 then some .runOn else none

/-- The show rate that a RATE byte of SHOW_SET names (R37). -/
def showRateOf (b : Byte) : Option Rate :=
  if b = 24 then some .r24 else if b = 25 then some .r25 else if b = 30 then some .r30 else none

/-- Rate code of a marker. -/
def Rate.code : Rate → Byte
  | .r24 => 1
  | .r25 => 2
  | .r30 => 3

/-- The rate that a marker's rate byte names (R9). -/
def markerRateOf (b : Byte) : Option Rate :=
  if b = 1 then some .r24 else if b = 2 then some .r25 else if b = 3 then some .r30 else none

/-- RETURN code. -/
def ReturnMode.code : ReturnMode → Byte
  | .manual => 0
  | .autoInGap => 1

/-- The RETURN value a code names. -/
def returnOf (b : Byte) : Option ReturnMode :=
  if b = 0 then some .manual else if b = 1 then some .autoInGap else none

/-- The yes-or-no, off-or-on value a code names. -/
def flagOf (b : Byte) : Option Bool := if b = 0 then some false else if b = 1 then some true else none

/-- Fault bitmap: bit 0 LINK up to bit 4 CLOCK. -/
def FaultSet.bitmap (f : FaultSet) : Nat :=
  bit f.link + 2 * bit f.stall + 4 * bit f.jump + 8 * bit f.stopped + 16 * bit f.clock

/-- Delta bitmap: the fault bits, bit 5 RUN, bit 6 ALIGN. -/
def DeltaSet.bitmap (d : DeltaSet) : Nat := d.faults.bitmap + 32 * bit d.run + 64 * bit d.align

/-- Rigs bitmap: bit 0 A, bit 1 B. -/
def rigsBitmap (a b : Bool) : Nat := bit a + 2 * bit b

/-- Result code (R174). -/
def Result.code : Result → Byte
  | .ok => 0x00
  | .adjusted => 0x01
  | .accepted => 0x02
  | .endOfWalk => 0x03
  | .badCheck => 0x10
  | .badLength => 0x11
  | .unknown => 0x12
  | .badValue => 0x13
  | .notFound => 0x14
  | .duplicateId => 0x15
  | .overlap => 0x16
  | .mapFull => 0x17
  | .wrongMode => 0x18
  | .wrongState => 0x19
  | .busy => 0x1A
  | .locked => 0x1B
  | .damaged => 0x1C
  | .staleCursor => 0x1D
  | .groupFading => 0x1E
  | .notReady => 0x1F

/-- The place of a kind in the notice set: its code less one (R178). -/
def NoticeKind.index : NoticeKind → Fin 8
  | .stranded => 0
  | .moved => 1
  | .rigChange => 2
  | .wouldMove => 3
  | .clockChange => 4
  | .bothQuiet => 5
  | .retired => 6
  | .store => 7

/-- The kind of an occurrence. -/
def NoticeDetail.kind : NoticeDetail → NoticeKind
  | .stranded _ _ => .stranded
  | .moved _ _ _ _ => .moved
  | .rigChange _ _ => .rigChange
  | .wouldMove _ _ => .wouldMove
  | .clockChange _ => .clockChange
  | .bothQuiet _ => .bothQuiet
  | .retired _ => .retired
  | .store _ _ => .store

/-- Store outcome code (R182). -/
def StoreOutcome.code : StoreOutcome → Byte
  | .saved => 0
  | .erased => 1
  | .abandoned => 2
  | .bootEmpty => 3
  | .bootFailed => 4

/-- The four detail bytes of a notice (R182). -/
def NoticeDetail.bytes : NoticeDetail → List Byte
  | .stranded g x => [u8 g, rigCode x, 0, 0]
  | .moved g x y c => [u8 g, rigCode x, rigCode y, c.code]
  | .rigChange a b => [u8 (rigsBitmap a b), 0, 0, 0]
  | .wouldMove g c => [u8 g, c.code, 0, 0]
  | .clockChange s => [s.code, 0, 0, 0]
  | .bothQuiet g => [u8 g, 0, 0, 0]
  | .retired id => be16 id ++ [0, 0]
  | .store none o => [0xFF, o.code, 0, 0]
  | .store (some k) o => [u8 k, o.code, 0, 0]

/-! ### Lane frame (R149, R182) -/

/-- The samples of audio slots, three bytes each, channel 0 first. -/
def samplesOf : List Byte → List Sample
  | b2 :: b1 :: b0 :: rest => (b2 ++ b1 ++ b0 : BitVec 24) :: samplesOf rest
  | _ => []

/-- The receiver's judgement of a frame (R2): the frame it carries when it is well-formed, that is
when the delimiter stands in its place, there are 147 bytes and the frame check is correct. -/
def judgeLaneFrame (delimited : Bool) (bytes : List Byte) : Option Frame :=
  if delimited && bytes.length == 147 &&
      byteSum (bytes.take 145) % 65536 == num2 (bytes.getD 145 0) (bytes.getD 146 0)
  then some ⟨samplesOf (bytes.take 144), bytes.getD 144 0, false⟩
  else none

/-- The bytes of one sample. -/
def sampleBytes (x : Sample) : List Byte := be24 x.toNat

/-- The bytes of the output lane's frame with given samples: the slots, the side byte 0x00 and the
frame check (R149). -/
def outFrameBytes (audio : List Sample) : List Byte :=
  let bs := audio.flatMap sampleBytes ++ [0]
  bs ++ be16 (byteSum bs % 65536)

/-! ### Marker (R9, R156, R182) -/

/-- SYNC. -/
def syncByte : Byte := 0xC3

/-- What a complete marker says when it is good (R9): its frame count and run state. `bytes` are the
seven bytes after SYNC. -/
def judgeMarker (rate : Rate) (bytes : List Byte) : Option (Nat × Transport) :=
  match bytes with
  | [hh, mm, ss, ff, rr, tt, _] =>
    match transportOf tt with
    | none => none
    | some t =>
      if hh.toNat ≤ 23 && mm.toNat ≤ 59 && ss.toNat ≤ 59 && markerRateOf rr == some rate &&
          decide (ff.toNat < rate.fps) && byteSum bytes % 256 == 0
      then some ((hh.toNat * 3600 + mm.toNat * 60 + ss.toNat) * rate.fps + ff.toNat, t)
      else none
  | _ => none

/-- The eight bytes of a marker naming frame count `f` (R156). -/
def markerBytes (rate : Rate) (f : Nat) (t : Transport) : List Byte :=
  let secs := f / rate.fps
  let fields := [u8 (secs / 3600), u8 (secs / 60 % 60), u8 (secs % 60), u8 (f % rate.fps),
    rate.code, t.code]
  syncByte :: fields ++ [checkFor fields]

/-! ### Segment record body (R63, R182) -/

/-- One EXPECT pair: the group in the upper four bits, the expectation code in the lower four. -/
def pairOf (b : Byte) : Option (Fin 12 × Expect) :=
  match groupOf (u8 (b.toNat / 16)), expectOf (b.toNat % 16) with
  | some g, some e => some (g, e)
  | _, _ => none

/-- The byte of an EXPECT pair. -/
def pairByte (q : Fin 12 × Expect) : Byte := u8 (q.1 * 16 + q.2.code.toNat)

/-- A printable character, 0x20 to 0x7E (R54). -/
def printable (b : Byte) : Bool := 0x20 ≤ b.toNat && b.toNat ≤ 0x7E

/-- A record body decoded (R63): the record with its numbers clamped (R64) and whether one was, or
the result that refuses the body. -/
def parseSegment (rate : Rate) (body : List Byte) : Except Result (Segment × Bool) :=
  match body with
  | i1 :: i0 :: s2 :: s1 :: s0 :: l1 :: l0 :: tl :: po :: fp :: f1 :: f0 :: pc :: rest =>
    match rest.drop pc.toNat with
    | [] => .error .badLength
    | ll :: label =>
      if label.length != ll.toNat || 16 < ll.toNat then .error .badLength
      else
        let id := num2 i1 i0
        let start := num3 s2 s1 s0
        let len := num2 l1 l0
        match policyOf po, flagOf fp, allSome pairOf (rest.take pc.toNat) with
        | some policy, some hasFade, some pairs =>
          if id = 0 || 4095 < id || rate.dayFrames ≤ start || len = 0 ||
              rate.dayFrames < start + len || 12 < pc.toNat ||
              !noRepeats (pairs.map Prod.fst) || !label.all printable
          then .error .badValue
          else
            let fade := if hasFade then some (min 4800 (num2 f1 f0)) else none
            .ok (⟨id, start, len, min len tl.toNat, policy, fade, pairs, label⟩,
              decide (len < tl.toNat) || (hasFade && decide (4800 < num2 f1 f0)))
        | _, _, _ => .error .badValue
  | _ => .error .badLength

/-- The record body of a segment (R182). -/
def Segment.body (r : Segment) : List Byte :=
  be16 r.id ++ be24 r.start ++ be16 r.length ++ [u8 r.tail, r.policy.code] ++
  (match r.fade with
    | none => [0, 0, 0]
    | some f => 1 :: be16 f) ++
  [u8 r.expect.length] ++ r.expect.map pairByte ++ [u8 r.label.length] ++ r.label

/-! ### Settings bodies -/

/-- A group settings write (R97): the nine settings after the group byte, clamped, and whether one
was clamped; `none` where a code names no value. -/
def parseGroupSettings (body : List Byte) : Option (GroupSettings × Bool) :=
  match body with
  | [ho, f1, f0, h1, h0, t2, t1, t0, q1, q0, de, re, d1, d0, pa] =>
    match rigOf ho, expectOf de.toNat, returnOf re, flagOf pa with
    | some home, some e, some r, some panel =>
      let fade := num2 f1 f0
      let hold := num2 h1 h0
      let thr := num3 t2 t1 t0
      let win := num2 q1 q0
      let del := num2 d1 d0
      some (⟨home, clampNat 0 4800 fade, clampNat 0 500 hold, clampNat 1 8388608 thr,
          clampNat 50 60000 win, e, r, clampNat 1 600 del, panel⟩,
        decide (4800 < fade) || decide (500 < hold) || decide (thr < 1) ||
        decide (8388608 < thr) || decide (win < 50) || decide (60000 < win) ||
        decide (del < 1) || decide (600 < del))
    | _, _, _, _ => none
  | _ => none

/-- The nine settings of a group in their layout (R182). -/
def GroupSettings.body (s : GroupSettings) : List Byte :=
  [rigCode s.home] ++ be16 s.fadeLen ++ be16 s.holdOff ++ be24 s.threshold ++ be16 s.quietWindow ++
  [s.defaultExpect.code, s.returnMode.code] ++ be16 s.returnDelay ++ [u8 (bit s.panel)]

/-- The four show settings (R37). -/
def ShowSettings.body (s : ShowSettings) : List Byte :=
  [u8 s.rate.fps, u8 s.alignTol, u8 s.jumpTol, u8 s.recovery]

/-- PREFERENCE in list order (R29). -/
def Preference.body (p : Preference) : List Byte := [p.first.code, p.second.code, p.third.code]

/-- The characters of a reply: an address character 0, then LEN to CHECK (R172). -/
def Reply.chars (r : Reply) : List Byte :=
  let cs := u8 (r.body.length + 3) :: r.code :: r.result.code :: r.body
  0 :: cs ++ [checkFor cs]

end Sys2Proof.Machine
end

