-- ==== Sys2Proof/Machine/Flags.lean ====
section
/-! DEFINITION. The conditions that the blocks judge, each read from the state as it stands: positions
and weights, silence and alignment, a group's terms, evidence, readiness, bars, and the pins that
follow the state (R44, R45, R51, R58, R61, R106, R107, R110, R120, R139, R181). -/

namespace Sys2Proof.Machine

/-! ### Reading and replacing a rig, a group -/

/-- The Rig Port of a rig. -/
def Part.rig (p : Part) : Rig → RigPort
  | .a => p.rigA
  | .b => p.rigB

/-- The part with the Rig Port of one rig replaced. -/
def Part.setRig (p : Part) : Rig → RigPort → Part
  | .a, r => { p with rigA := r }
  | .b, r => { p with rigB := r }

/-- The record and settings of a group. -/
def Part.group (p : Part) (g : Fin 12) : Group := p.groups[g]

/-- The part with one group's record replaced. -/
def Part.setGroup (p : Part) (g : Fin 12) (r : Group) : Part :=
  { p with groups := p.groups.set g r }

/-! ### Membership (R99) -/

/-- Whether a channel belongs to a group. -/
def Part.inGroup (p : Part) (g : Fin 12) (c : Fin 48) : Bool := p.members[c] == g

/-- Whether a group has at least one member channel. -/
def Part.hasMembers (p : Part) (g : Fin 12) : Bool := allChannels.any (p.inGroup g)

/-- The number of a group's member channels. -/
def Part.memberCount (p : Part) (g : Fin 12) : Nat := allChannels.countP (p.inGroup g)

/-! ### Positions (R10, R44, R155) -/

/-- A rig's sample position in the show day, while it has one (R10). -/
def RigPort.position (rate : Rate) (r : RigPort) : Option Nat :=
  match r.posValid, r.run with
  | true, some .playing => some ((r.fLast * rate.spf + r.n) % dayLength)
  | true, some _ => some (r.fLast * rate.spf)
  | _, _ => none

/-- The delay that skew `s` puts on a rig (R44). -/
def delayOf (s : Int) : Rig → Nat
  | .a => (-s).toNat
  | .b => s.toNat

/-- A rig's aligned position: its position less its delay, mod L (R44). -/
def Part.alignedPosition (p : Part) (x : Rig) : Option Nat :=
  ((p.rig x).position p.align.settings.rate).map
    fun pos => (((pos : Int) - delayOf p.align.s x) % dayLength).toNat

/-- A PLAYING rig's aligned frame Fa (R155). -/
def Part.alignedFrame (p : Part) (x : Rig) : Option Nat :=
  (p.alignedPosition x).map fun pos => pos / p.align.settings.rate.spf

/-- Day-circular distance between two frame counts (R1, Numbers and arithmetic). -/
def dayDistance (rate : Rate) (f g : Nat) : Nat :=
  min (((f : Int) - g) % rate.dayFrames).toNat (((g : Int) - f) % rate.dayFrames).toNat

/-- The offset D from the two positions (R40). -/
def offsetOf (posA posB : Nat) : Int :=
  ((posB : Int) - posA + halfDay) % dayLength - halfDay

/-! ### Weights, silence, tallies (R45, R139, R140) -/

/-- The destination weight of a ramp at its present step (R142). -/
def Ramp.weight (r : Ramp) : Nat := r.startWeight + (unity - r.startWeight) * r.step / r.length

/-- A group's destination weight u: its ramp's, or 0 outside FADING (R140, R144). -/
def Group.destWeight (g : Group) : Nat :=
  match g.state with
  | .fading r => r.weight
  | _ => 0

/-- The weight a group gives a rig (R140). -/
def Group.weightOn (g : Group) (x : Rig) : Nat :=
  if x = g.source then unity - g.destWeight else g.destWeight

/-- Whether a group with members draws a weight above 0 from a rig. -/
def Part.draws (p : Part) (x : Rig) : Bool :=
  allGroups.any fun g => decide (0 < (p.group g).weightOn x) && p.hasMembers g

/-- Whether a rig is silent for the tracking rules (R45). -/
def Part.silent (p : Part) (x : Rig) : Bool := p.mode == .standby || !p.draws x

/-- Whether a rig's tally is lit (R139; assumption log 25). -/
def Part.tally (p : Part) (x : Rig) : Bool :=
  p.powered && !p.resetHeld && p.mode != .standby && p.draws x

/-! ### Skew and the aligned flag (R46, R51) -/

/-- The target skew: D clamped to −511 to +511 (R46, R49). -/
def targetSkew (d : Int) : Int := max (-511) (min 511 d)

/-- Whether a change of skew from `s` to `t` changes a rig's delay (R46). -/
def skewAffects (s t : Int) : Rig → Bool
  | .a => decide (s < 0) || decide (t < 0)
  | .b => decide (0 < s) || decide (0 < t)

/-- Whether every rig affected by a change of skew is silent (R46, R47). -/
def Part.skewUnheard (p : Part) (s t : Int) : Bool :=
  (!skewAffects s t .a || p.silent .a) && (!skewAffects s t .b || p.silent .b)

/-- One sample from `s` toward `t` (R46, R47). -/
def stepToward (s t : Int) : Int := if s < t then s + 1 else if t < s then s - 1 else s

/-- The condition of the aligned flag (R51). -/
def AlignmentUnit.inStep (u : AlignmentUnit) : Bool :=
  match u.d with
  | none => false
  | some d => decide (d.natAbs ≤ 511) && decide ((d - u.s).natAbs ≤ u.settings.alignTol)

/-! ### Faults -/

/-- Whether a fault kind is present. -/
def FaultSet.has (f : FaultSet) : FaultKind → Bool
  | .link => f.link
  | .stall => f.stall
  | .jump => f.jump
  | .stopped => f.stopped
  | .clock => f.clock

/-- A fault set with one kind made present or absent. -/
def FaultSet.put (f : FaultSet) : FaultKind → Bool → FaultSet
  | .link, b => { f with link := b }
  | .stall, b => { f with stall := b }
  | .jump, b => { f with jump := b }
  | .stopped, b => { f with stopped := b }
  | .clock, b => { f with clock := b }

/-- Whether a fault set holds no kind. -/
def FaultSet.isEmpty (f : FaultSet) : Bool := !(f.link || f.stall || f.jump || f.stopped || f.clock)

/-- Whether a fault set holds LINK, STALL or JUMP, the kinds the Timecode Generator acts on (R160). -/
def FaultSet.breaksTimeline (f : FaultSet) : Bool := f.link || f.stall || f.jump

/-- Whether a delta set holds no flag. -/
def DeltaSet.isEmpty (d : DeltaSet) : Bool := d.faults.isEmpty && !d.run && !d.align

/-- Whether some flag is set in `d'` and not in `d` (R20). -/
def DeltaSet.gains (d d' : DeltaSet) : Bool :=
  (d'.faults.link && !d.faults.link) || (d'.faults.stall && !d.faults.stall) ||
  (d'.faults.jump && !d.faults.jump) || (d'.faults.stopped && !d.faults.stopped) ||
  (d'.faults.clock && !d.faults.clock) || (d'.run && !d.run) || (d'.align && !d.align)

/-! ### Segments and terms (R57, R58, R61) -/

/-- Whether a frame is contained in a record's span (R57). -/
def Segment.contains (s : Segment) (f : Nat) : Bool := decide (s.start ≤ f) && decide (f < s.start + s.length)

/-- Whether two records' spans share a frame (R65). -/
def Segment.overlaps (s t : Segment) : Bool :=
  decide (s.start < t.start + t.length) && decide (t.start < s.start + s.length)

/-- The record with a SEG_ID, if the map holds one. -/
def SegMap.find (m : SegMap) (id : Nat) : Option SegRecord := m.recs.find? fun r => r.seg.id == id

/-- A rig's current segment. -/
def SegMap.held (m : SegMap) : Rig → Option Nat
  | .a => m.heldA
  | .b => m.heldB

/-- Whether a rig's current segment is the gap. -/
def SegMap.inGap (m : SegMap) (x : Rig) : Bool := (m.held x).isNone

/-- The current segment that a rig with frame `f` takes (R58): a LIVE record that contains it, else
the RETIRING record it already holds if that contains it, else gap. -/
def SegMap.currentFor (m : SegMap) (x : Rig) (f : Nat) : Option Nat :=
  match m.recs.find? fun r => !r.retiring && r.seg.contains f with
  | some r => some r.seg.id
  | none =>
    match m.held x with
    | none => none
    | some id =>
      match m.find id with
      | some r => if r.retiring && r.seg.contains f then some id else none
      | none => none

/-- A group's reference rig: SOURCE, or DEST while FADING (R61, R105). -/
def Group.refRig (g : Group) : Rig :=
  match g.state with
  | .fading _ => otherRig g.source
  | _ => g.source

/-- The record that is a rig's current segment, `none` for gap. -/
def Part.segmentOf (p : Part) (x : Rig) : Option Segment :=
  ((p.map.held x).bind p.map.find).map SegRecord.seg

/-- A group's segment: the current segment of its reference rig (R61). -/
def Part.groupSegment (p : Part) (g : Fin 12) : Option Segment := p.segmentOf (p.group g).refRig

/-- The expectation a segment's EXPECT list gives a group, if it lists it (R55). -/
def Segment.expectFor (s : Segment) (g : Fin 12) : Option Expect :=
  (s.expect.find? fun q => q.1 == g).map Prod.snd

/-- A group's expectation (R55, R61, R87). -/
def Part.expectation (p : Part) (g : Fin 12) : Expect :=
  ((p.groupSegment g).bind fun s => s.expectFor g).getD (p.group g).settings.defaultExpect

/-- A group's policy (R61). -/
def Part.policy (p : Part) (g : Fin 12) : Policy :=
  match p.groupSegment g with
  | some s => s.policy
  | none => .auto

/-- The ramp length for a move of a group whose reference rig has become `dest` (R115, R143). -/
def Part.fadeLength (p : Part) (g : Fin 12) (dest : Rig) : Nat :=
  match (p.segmentOf dest).bind Segment.fade with
  | some f => f
  | none => (p.group g).settings.fadeLen

/-! ### Evidence and readiness (R106, R107) -/

/-- The Watch's mismatch flag against a rig for a group (R88). -/
def GroupWatch.mismatch (w : GroupWatch) : Rig → Bool
  | .a => w.mismatchA
  | .b => w.mismatchB

/-- A group's quiet run on a rig (R84). -/
def GroupWatch.quietRun (w : GroupWatch) : Rig → Nat
  | .a => w.runA
  | .b => w.runB

/-- The cause of the evidence against rig `x` for group `g`, `none` where no evidence stands (R106). -/
def Part.cause (p : Part) (g : Fin 12) (x : Rig) : Option Cause :=
  let f := (p.rig x).faults
  if !p.hasMembers g then none
  else if f.link then some .link
  else if f.stall then some .stall
  else if f.jump then some .jump
  else if f.stopped then some .stopped
  else if f.clock then some .clock
  else if p.watch.groups[g].mismatch x then some .quiet
  else none

/-- Whether evidence stands against rig `x` for group `g` (R106). -/
def Part.evidence (p : Part) (g : Fin 12) (x : Rig) : Bool :=
  (!(p.rig x).faults.isEmpty || p.watch.groups[g].mismatch x) && p.hasMembers g

/-- Whether rig `y` is in step (R107). -/
def Part.rigInStep (p : Part) (y : Rig) : Bool := p.align.aligned || !(p.rig (otherRig y)).posValid

/-- Whether rig `y` is ready for group `g` (R107). -/
def Part.ready (p : Part) (g : Fin 12) (y : Rig) : Bool :=
  (p.rig y).faults.isEmpty && (p.rig y).run == some .playing && p.rigInStep y &&
  !p.watch.groups[g].mismatch y

/-- Whether evidence against a group's reference rig stands barred (R110). -/
def Part.barred (p : Part) (g : Fin 12) : Bool :=
  p.mode != .standby && p.evidence g (p.group g).refRig &&
  (p.mode == .rehearsal || p.policy g == .manualOnly ||
    (match (p.group g).state with
     | .held => true
     | .fading _ => (p.group g).pinned
     | _ => false))

/-- Whether a group's return timer runs (R120). -/
def Part.returnRuns (p : Part) (g : Fin 12) : Bool :=
  let r := p.group g
  r.state == .settled && r.source != r.settings.home && r.settings.returnMode == .autoInGap &&
  p.mode == .shows && p.hasMembers g && p.ready g r.settings.home

/-! ### Timecode (R157, R164) -/

/-- Pending: FOLLOW with F_out absent (R157). -/
def Timecode.isPending (t : Timecode) : Bool := t.state == .follow && t.fOut.isNone

/-- Whether a rig is good for the generator (R164). -/
def RigPort.tcGood (r : RigPort) : Bool := r.posValid && !r.faults.breaksTimeline

/-- The state END_MODE names (R162). -/
def EndMode.state : EndMode → TcState
  | .hold => .hold
  | .silent => .silent
  | .runOn => .runOn

/-- Whether the generator keeps time by itself: FREEWHEEL, HOLD, RUN_ON, and FOLLOW on a rig that is
STOPPED or LOCATING (R157, R158, R161, R162). A generator that comes to FOLLOW on such a rig with C above SPF
already sends at once, as one entering a state that keeps time does (R158: DESIGN CHOICE, assumption
log 51). -/
def Part.tcSelfTimed (p : Part) : Bool :=
  p.tc.fOut.isSome &&
  (match p.tc.state with
   | .freewheel | .hold | .runOn => true
   | .follow =>
     (match (p.rig p.tc.followed).run with
      | some .stopped | some .locating => true
      | _ => false)
   | .off | .silent => false)

/-! ### The part as a whole -/

/-- The part is at work: powered, with RESET released (assumption log 7). -/
def Part.atWork (p : Part) : Bool := p.powered && !p.resetHeld

/-- Whether a kind is masked (R180). -/
def Link.masked (l : Link) (k : Fin 8) : Bool := l.mask.getLsbD k

/-- ATTN is asserted: an unmasked kind is pending (R181; assumption log 25). -/
def Part.attn (p : Part) : Bool :=
  p.atWork && allKinds.any fun k => p.link.notices[k].isSome && !p.link.masked k

/-- The part drives the link (R172). -/
def Part.drivesLink (p : Part) : Bool :=
  match p.link.reply with
  | some r => r.started
  | none => false

/-- Listen-only: the ADDR straps read 0 or 31 (R166). -/
def Link.listenOnly (l : Link) : Bool := l.unitAddr == 0 || l.unitAddr == 31

end Sys2Proof.Machine
end

