-- ==== Sys2Proof/Machine/Ops.lean ====
section
/-! DEFINITION. The operations that several blocks share: raising a notice, an arrival at a Rig Port,
judging the aligned flag, the Timecode Generator's jams, entries and changes of followed rig, the
store's abandonment, current segments, quiet-run restarts, and the request forms (R20, R42, R52, R71,
R86, R154 to R165, R178, R186). -/

namespace Sys2Proof.Machine

/-! ### Notices (R178) -/

/-- Enter an occurrence in the notice set. -/
def Link.raise (l : Link) (d : NoticeDetail) : Link :=
  let k := d.kind.index
  let count := match l.notices[k] with
    | some old => bump 255 old.count
    | none => 1
  { l with notices := l.notices.set k (some ⟨d, count⟩) }

/-- A block raises a notice (R178). -/
def Part.raise (p : Part) (d : NoticeDetail) : Part := { p with link := p.link.raise d }

/-! ### Arrivals at a Rig Port (R19, R20) -/

/-- A fault kind joins the fault set, with its delta if it was absent (R19). -/
def RigPort.raiseFault (r : RigPort) (k : FaultKind) : RigPort :=
  if r.faults.has k then r
  else { r with faults := r.faults.put k true, deltas := { r.deltas with faults := r.deltas.faults.put k true } }

/-- A fault kind leaves the fault set if present, with its delta (R19). -/
def RigPort.clearFault (r : RigPort) (k : FaultKind) : RigPort :=
  if r.faults.has k then
    { r with faults := r.faults.put k false, deltas := { r.deltas with faults := r.deltas.faults.put k true } }
  else r

/-- The run state takes a value, with the RUN delta if it changed (R19). -/
def RigPort.setRun (r : RigPort) (t : Option Transport) : RigPort :=
  if r.run = t then r else { r with run := t, deltas := { r.deltas with run := true } }

/-- The RIG_CHANGE notice, when an arrival set a delta that was clear on either rig; its detail is
the set of rigs whose delta sets are then non-empty (R20). `before` is the part before the arrival. -/
def Part.raiseRigChange (before p : Part) : Part :=
  if before.rigA.deltas.gains p.rigA.deltas || before.rigB.deltas.gains p.rigB.deltas
  then p.raise (.rigChange (!p.rigA.deltas.isEmpty) (!p.rigB.deltas.isEmpty))
  else p

/-- One arrival at one Rig Port, with the RIG_CHANGE it raises (R20). -/
def Part.rigArrival (p : Part) (x : Rig) (f : RigPort → RigPort) : Part :=
  p.raiseRigChange (p.setRig x (f (p.rig x)))

/-! ### The aligned flag (R42, R51, R52) -/

/-- The ALIGN delta of a rig. -/
def RigPort.setAlignDelta (r : RigPort) : RigPort := { r with deltas := { r.deltas with align := true } }

/-- Judge the aligned flag; a change sets the ALIGN delta on both rigs as one arrival (R51, R52). -/
def Part.judgeAligned (p : Part) : Part :=
  let now := p.align.inStep
  if now = p.align.aligned then p
  else
    p.raiseRigChange
      { p with
        align := { p.align with aligned := now },
        rigA := p.rigA.setAlignDelta, rigB := p.rigB.setAlignDelta }

/-- The Alignment Unit takes a rig's loss of position-valid: D becomes none, the pending skew is
discarded and the flag is judged (R42). `before` is the part before the arrival. -/
def Part.offsetAfter (before : Part) (x : Rig) (p : Part) : Part :=
  if (before.rig x).posValid && !(p.rig x).posValid then
    Part.judgeAligned
      { p with align := { p.align with d := none, stale := false, pendingSkew := none } }
  else p

/-! ### Timecode Generator (R154 to R165) -/

/-- The generator takes a state; OFF and SILENT send nothing, so no marker stays owed
(R154, R162; assumption log 21). -/
def Timecode.enter (t : Timecode) (st : TcState) : Timecode :=
  { t with state := st, owed := t.owed && st != .off && st != .silent }

/-- Entry into FREEWHEEL; with a limit of 0 END_MODE applies at once (R160, R161). -/
def Timecode.enterFreewheel (t : Timecode) : Timecode :=
  let t := { t with freewheelCount := 0 }
  if t.settings.freewheelLimit = 0 then t.enter t.settings.endMode.state else t.enter .freewheel

/-- FOLLOW, pending (R154, R165). -/
def Timecode.enterPending (t : Timecode) : Timecode :=
  { t with state := .follow, fOut := none, cadence := 0, freewheelCount := 0, owed := false }

/-- The frame a jam on rig `x` gives F_out: its aligned frame in PLAYING, its held frame in STOPPED
or LOCATING (R155, R157, R159). -/
def Part.jamFrame (p : Part) (x : Rig) : Option Nat :=
  match (p.rig x).run with
  | some .playing => p.alignedFrame x
  | some _ => some (p.rig x).fLast
  | none => none

/-- The re-jam test against the followed rig (R159). -/
def Part.rejam (p : Part) : Part :=
  match p.tc.fOut, p.jamFrame p.tc.followed with
  | some f, some j =>
    if 1 < dayDistance p.align.settings.rate f (p.rig p.tc.followed).fLast
    then { p with tc := { p.tc with fOut := some j } }
    else p
  | _, _ => p

/-- The run state sent becomes rig `x`'s. -/
def Part.sendRunOf (p : Part) (x : Rig) : Part :=
  match (p.rig x).run with
  | some t => { p with tc := { p.tc with runSent := t } }
  | none => p

/-- What the generator does once rig `x` is the followed rig, by its state and the rig's condition
(R164). -/
def Part.followNow (p : Part) (x : Rig) : Part :=
  match p.tc.state with
  | .off => p
  | .follow =>
    if p.tc.isPending then p
    else if (p.rig x).tcGood then (p.sendRunOf x).rejam
    else { p with tc := p.tc.enterFreewheel }
  | .freewheel | .hold | .silent | .runOn =>
    if (p.rig x).tcGood then ({ p with tc := p.tc.enter .follow }.sendRunOf x).rejam
    else p

/-- The generator takes a new followed rig (R164). -/
def Part.followRig (p : Part) (x : Rig) : Part :=
  Part.followNow { p with tc := { p.tc with followed := x } } x

/-- The followed rig is the reference rig of the LEADER group: a change is taken by R164 (R155). -/
def Part.syncFollowed (p : Part) : Part :=
  let x := (p.group p.tc.settings.leader).refRig
  if x = p.tc.followed then p else p.followRig x

/-- The generator takes an arrival at the followed rig's port that costs it position-valid or adds
LINK, STALL or JUMP: FOLLOW passes to FREEWHEEL (R160). `before` is the part before the arrival. -/
def Part.freewheelAfter (before : Part) (x : Rig) (p : Part) : Part :=
  let r := before.rig x
  let r' := p.rig x
  if x = p.tc.followed && p.tc.state == .follow && p.tc.fOut.isSome &&
      ((r.posValid && !r'.posValid) || (r'.faults.link && !r.faults.link) ||
       (r'.faults.stall && !r.faults.stall) || (r'.faults.jump && !r.faults.jump))
  then { p with tc := p.tc.enterFreewheel }
  else p

/-- The generator takes a good marker of rig `x` (R157, R158, R163). `jumped`: the marker put JUMP
into the fault set, so that it took the generator out of FOLLOW or finds it elsewhere (R160; assumption
log 52). -/
def Part.tcMarker (p : Part) (x : Rig) (t : Transport) (jumped : Bool) : Part :=
  if x ≠ p.tc.followed then p
  else
    match p.tc.state with
    | .off => p
    | .follow =>
      if p.tc.isPending then
        { p with tc := { p.tc with fOut := p.jamFrame x, runSent := t } }
      else if jumped then { p with tc := p.tc.enterFreewheel }
      else
        match t with
        | .playing => { p with tc := { p.tc with runSent := t } }.rejam
        | _ => { p with tc := { p.tc with runSent := t, fOut := some (p.rig x).fLast } }
    | .freewheel | .hold | .silent | .runOn =>
      if t = .playing ∧ ¬ (p.rig x).faults.breaksTimeline then
        { p with tc := { p.tc.enter .follow with runSent := .playing } }.rejam
      else p

/-- The freewheel count has reached its limit: END_MODE applies (R162). -/
def Timecode.applyLimit (t : Timecode) : Timecode :=
  if t.state = .freewheel ∧ t.settings.freewheelLimit ≤ t.freewheelCount
  then t.enter t.settings.endMode.state else t

/-- The generator takes a set of settings that differs from the stored one: TC_ENABLE first, then
LEADER, FREEWHEEL_LIMIT and END_MODE (R154). -/
def Part.changeTcSettings (p : Part) (new : TcSettings) : Part :=
  let was := p.tc.settings.enable
  let p := { p with tc := { p.tc with settings := new } }
  if was && !new.enable then
    Part.syncFollowed
      { p with tc := { p.tc.enter .off with fOut := none, freewheelCount := 0 } }
  else if !was && new.enable then
    Part.syncFollowed { p with tc := p.tc.enterPending }
  else
    let p := p.syncFollowed
    let t := p.tc.applyLimit
    match t.state with
    | .hold | .silent | .runOn => { p with tc := t.enter new.endMode.state }
    | _ => { p with tc := t }

/-- The generator takes a set of settings at once; one that matches the stored settings has no effect
(R153, R154; assumption log 44). -/
def Part.applyTcSettings (p : Part) (new : TcSettings) : Part :=
  if new = p.tc.settings then p else p.changeTcSettings new

/-! ### Show Store (R183, R186) -/

/-- The content sum: the sum of the content bytes as written, mod 65,536 (R183). -/
def contentSum (c : ShowContents) : BitVec 16 := BitVec.ofNat 16 (byteSum (Config.contentBytes c))

/-- The slot and contents of a store with one slot changed. -/
def Store.setSlot (s : Store) (k : Fin 8) (v : Slot) : Store := { s with slots := s.slots.set k v }

/-- A save or erase in flight ends with its slot in `state` and nothing stored; the label is kept,
the activity becomes none (R186, R187). -/
def Store.endWork (s : Store) (k : Fin 8) (v : Slot) : Store :=
  { s.setSlot k v with activity := .idle }

/-- The slot a save or erase in flight names. -/
def Activity.slot : Activity → Option (Fin 8)
  | .idle => none
  | .saveErase k _ _ => some k
  | .saveWrite k _ _ => some k
  | .erase k _ => some k

/-- An entry into FADING abandons a save or erase in flight: the slot becomes DAMAGED and STORE is
raised with ABANDONED (R127, R186, R187). -/
def Part.abandonStore (p : Part) : Part :=
  match p.store.activity.slot with
  | none => p
  | some k =>
    Part.raise
      { p with store := p.store.endWork k { p.store.slots[k] with state := .damaged, stored := none } }
      (.store (some k) .abandoned)

/-! ### Current segments (R58, R59, R71) -/

/-- A rig's current segment takes a value. -/
def SegMap.setHeld (m : SegMap) (x : Rig) (v : Option Nat) : SegMap :=
  match x with
  | .a => { m with heldA := v }
  | .b => { m with heldB := v }

/-- GENERATION increases by one, wrapping from 65,535 to 0 (R78). -/
def SegMap.bumpGeneration (m : SegMap) : SegMap := { m with generation := (m.generation + 1) % 65536 }

/-- The map without the record of a SEG_ID. -/
def SegMap.remove (m : SegMap) (id : Nat) : SegMap :=
  { m with recs := m.recs.filter fun r => r.seg.id != id }

/-- A rig's current segment changes; when it leaves a RETIRING record that the other rig does not
hold, the record is removed, GENERATION rises and RETIRED is raised (R71). -/
def Part.moveSegment (p : Part) (x : Rig) (v : Option Nat) : Part :=
  let old := p.map.held x
  let p' := { p with map := p.map.setHeld x v }
  if old = v then p
  else
    match old with
    | none => p'
    | some id =>
      match p.map.find id with
      | some r =>
        if r.retiring && p.map.held (otherRig x) != some id then
          Part.raise { p' with map := (p'.map.remove id).bumpGeneration } (.retired id)
        else p'
      | none => p'

/-- A rig's current segment is set from its F_last (R58). -/
def Part.resegment (p : Part) (x : Rig) : Part :=
  p.moveSegment x (p.map.currentFor x (p.rig x).fLast)

/-- After a map change, the current segment of each position-valid rig is set afresh (R59). -/
def Part.resegmentValid (p : Part) : Part :=
  let p := if p.rigA.posValid then p.resegment .a else p
  if p.rigB.posValid then p.resegment .b else p

/-! ### Quiet runs (R86) -/

/-- A group's quiet runs restart (R86). -/
def ActivityWatch.restart (w : ActivityWatch) (g : Fin 12) : ActivityWatch :=
  { w with groups := w.groups.set g GroupWatch.reset }

/-- The quiet runs of the listed groups restart (R86). -/
def Part.restartRuns (p : Part) (gs : List (Fin 12)) : Part :=
  { p with watch := gs.foldl ActivityWatch.restart p.watch }

/-! ### Requests and their answers (R171, R174) -/

/-- What the owning block of a request gives back: the part after execution, the result and the
reply body (R171). -/
structure Answer where
  part : Part
  result : Result
  body : List Byte

/-- A refusal: no effect, and an empty body (R174). -/
def Part.refuse (p : Part) (r : Result) : Answer := ⟨p, r, []⟩

end Sys2Proof.Machine
end

