-- ==== Sys2Proof/Machine/GroupEngine.lean ====
section
/-! DEFINITION. The Group Engine: entries into FADING, landings and reversals, the judge that applies
each group's state rules, pins, and the execution of the group requests and MODE_SET (R96 to R138,
R141, R143, R146, R148). -/

namespace Sys2Proof.Machine

/-! ### Single transitions of a group -/

/-- One group's record changed. -/
def Part.modGroup (p : Part) (g : Fin 12) (f : Group → Group) : Part := p.setGroup g (f (p.group g))

/-- The return timer stops at 0 (R120). -/
def Group.stopReturn (r : Group) : Group := { r with returnCount := 0, returnExpired := false }

/-- The hold-off count or the stranding ends: SETTLED on the source (R112, R114). -/
def Group.settle (r : Group) : Group := { r with state := .settled }

/-- A landing, early or not: DEST becomes SOURCE, and the group HELD if pinned, SETTLED if not (R116). -/
def Group.land (r : Group) : Group :=
  match r.state with
  | .fading _ => { r with source := otherRig r.source, state := if r.pinned then .held else .settled }
  | _ => r

/-- The age of a ramp that begins now (R141; assumption log 10, 12). -/
def Part.rampAge (p : Part) : RampAge := if p.early then .thisPeriod else .sinceLast 0

/-- The number of the latest arrival from outside, since the last core sample period, whose ramp still
runs; 0 for none (R141; assumption log 10). -/
def Group.rampArrival (r : Group) : Nat :=
  match r.state with
  | .fading ⟨_, _, _, .sinceLast n⟩ => n
  | _ => 0

/-- The largest such number over all groups (R141). -/
def Part.rampArrivals (p : Part) : Nat := allGroups.foldl (fun m g => max m (p.group g).rampArrival) 0

/-- A group whose ramp the arrival numbered `n` has begun carries that number; `was` is the group before
that arrival (R141). -/
def Group.stamp (n : Nat) (was r : Group) : Group :=
  match r.state with
  | .fading ⟨u, l, j, .sinceLast 0⟩ =>
    if r.source = was.source ∧ r.state = was.state then r
    else { r with state := .fading ⟨u, l, j, .sinceLast n⟩ }
  | _ => r

/-- The part after an arrival from outside, its new ramps numbered as those of the next such arrival
(R141; assumption log 10). -/
def Part.stampRamps (before p : Part) : Part :=
  if p.groups = before.groups then p
  else
    let n := before.rampArrivals + 1
    allGroups.foldl (fun (q : Part) (g : Fin 12) => q.modGroup g (Group.stamp n (before.group g))) p

/-- What falls due by the count of the last sample period belongs to that period, whatever of the next
one has been commanded ahead: so do the ramps it begins (R141, R142; assumption log 10, 12). -/
def Part.ofLastPeriod (p : Part) (f : Part → Part) : Part :=
  { f { p with early := false } with early := p.early }

/-- What every entry into FADING tells the other blocks: MOVED, the store's abandonment, and the
generator's followed rig (R115, R126, R127, R155). -/
def Part.tellMove (p : Part) (g : Fin 12) (src dest : Rig) (cause : Cause) : Part :=
  ((p.raise (.moved g src dest cause)).abandonStore).syncFollowed

/-- Entry into FADING toward the other rig of SOURCE; with a length of 0 the group lands at once
(R115, R143). The reference rig changes, and evidence standing against the new one is yet to be reported
(R110, R132). -/
def Part.enterFading (p : Part) (g : Fin 12) (pinned : Bool) (cause : Cause) : Part :=
  let r := p.group g
  let dest := otherRig r.source
  let len := p.fadeLength g dest
  let r' :=
    { r with
      state := .fading ⟨0, len, 0, p.rampAge⟩, pinned := pinned, reported := false }.stopReturn
  let p' := (p.setGroup g r').tellMove g r.source dest cause
  if len = 0 then p'.modGroup g Group.land else p'

/-- A reversal: SOURCE and DEST change places, and the ramp restarts from the weight the new DEST
has, or the group lands at once where that is unity (R117, R130, R146). The reference rig changes here too
(R110, R132). -/
def Part.reverse (p : Part) (g : Fin 12) (pinned : Bool) (cause : Cause) : Part :=
  let r := p.group g
  match r.state with
  | .fading ramp =>
    let dest := otherRig r.source
    let r' :=
      if ramp.weight = 0 then
        { r with
          state := if pinned then .held else .settled, pinned := pinned, reported := false }.stopReturn
      else
        { r with
          source := dest,
          state := .fading ⟨unity - ramp.weight, if ramp.step = 0 then ramp.length else ramp.step, 0,
            p.rampAge⟩,
          pinned := pinned, reported := false }.stopReturn
    (p.setGroup g r').tellMove g dest r.source cause
  | _ => p

/-! ### The judge (R108 to R121) -/

/-- The cause named for a move away from rig `x`; evidence stands where this is asked. -/
def Part.moveCause (p : Part) (g : Fin 12) (x : Rig) : Cause := (p.cause g x).getD .quiet

/-- CONFIRMING and STRANDED end: emptied, another mode, evidence ceased, MANUAL_ONLY (R101, R104,
R112, R114). Only the end of evidence counts a glitch, and only in CONFIRMING (R123). -/
def Part.judgeExit (p : Part) (g : Fin 12) : Part :=
  let r := p.group g
  let stays := p.hasMembers g && p.mode == .shows
  let ev := p.evidence g r.source
  let auto := p.policy g == .auto
  match r.state with
  | .confirming _ =>
    if stays && ev && auto then p
    else if stays && !ev then p.setGroup g { r.settle with glitches := bump 255 r.glitches }
    else p.setGroup g r.settle
  | .stranded => if stays && ev && auto then p else p.setGroup g r.settle
  | _ => p

/-- The decision at expiry: FADING to the other rig if it is ready, STRANDED if not (R113). -/
def Part.decideMove (p : Part) (g : Fin 12) : Part :=
  let r := p.group g
  let y := otherRig r.source
  if p.ready g y then p.enterFading g false (p.moveCause g r.source)
  else (p.setGroup g { r with state := .stranded }).raise (.stranded g r.source)

/-- SETTLED with evidence against its source, in SHOW under AUTO, enters CONFIRMING; with HOLD_OFF 0
the decision is taken at once (R109, R111). -/
def Part.judgeSettled (p : Part) (g : Fin 12) : Part :=
  let r := p.group g
  if r.state == .settled && p.mode == .shows && p.policy g == .auto && p.evidence g r.source then
    let p' := p.setGroup g { r with state := .confirming r.settings.holdOff }.stopReturn
    if r.settings.holdOff = 0 then p'.decideMove g else p'
  else p

/-- CONFIRMING whose hold-off count stands at 0 is decided (R111, R113). -/
def Part.judgeExpiry (p : Part) (g : Fin 12) : Part :=
  match (p.group g).state with
  | .confirming 0 => p.decideMove g
  | _ => p

/-- STRANDED leaves for the other rig when it becomes ready (R114). -/
def Part.judgeStranded (p : Part) (g : Fin 12) : Part :=
  let r := p.group g
  if r.state == .stranded && p.ready g (otherRig r.source)
  then p.enterFading g false (p.moveCause g r.source) else p

/-- An unpinned fade in SHOW under AUTO is reversed when evidence stands against DEST and SOURCE is
ready (R117). -/
def Part.judgeFading (p : Part) (g : Fin 12) : Part :=
  let r := p.group g
  let dest := otherRig r.source
  match r.state with
  | .fading _ =>
    if !r.pinned && p.mode == .shows && p.policy g == .auto && p.evidence g dest && p.ready g r.source
    then p.reverse g false (p.moveCause g dest) else p
  | _ => p

/-- The return timer is 0 while one of its conditions does not hold (R120). -/
def Part.judgeReturnTimer (p : Part) (g : Fin 12) : Part :=
  if p.returnRuns g then p else p.modGroup g Group.stopReturn

/-- An expired return timer with the source rig in a gap brings the group home (R121). -/
def Part.judgeReturn (p : Part) (g : Fin 12) : Part :=
  let r := p.group g
  if p.returnRuns g && r.returnExpired && p.map.inGap r.source then p.enterFading g false .home else p

/-- REPORTED follows the barred condition, and its rise raises WOULD_MOVE (R110). An entry into FADING or
a reversal has made REPORTED false, so that evidence against the new DEST is reported at the arrival itself
(R132). -/
def Part.judgeReported (p : Part) (g : Fin 12) : Part :=
  let r := p.group g
  let b := p.barred g
  let p' := p.setGroup g { r with reported := b }
  if b && !r.reported then p'.raise (.wouldMove g (p.moveCause g r.refRig)) else p'

/-- One group's rules applied until its state rests (R108). Where one arrival completes the conditions of
R109 and of R121, CONFIRMING is entered (DESIGN CHOICE, assumption log 49). -/
def Part.judgeGroup (p : Part) (g : Fin 12) : Part :=
  let p := (((p.judgeExit g).judgeSettled g).judgeExpiry g).judgeStranded g
  let p := (((p.judgeFading g).judgeReturnTimer g).judgeReturn g).judgeReturnTimer g
  p.judgeReported g

/-- The judge takes an arrival: every group in ascending number, each until its state rests (R108). -/
def Part.judge (p : Part) : Part := allGroups.foldl Part.judgeGroup p

/-! ### The handover of a block completion (R90, R111, R112, R113, R120, R121) -/

/-- The hold-off count of a CONFIRMING group falls by one (R111). -/
def Group.countHoldOff (r : Group) : Group :=
  match r.state with
  | .confirming n => { r with state := .confirming (n - 1) }
  | _ => r

/-- A running return timer counts a block and is compared with RETURN_DELAY (R98, R120; assumption log
18, 19). -/
def Part.countReturn (p : Part) (g : Fin 12) : Part :=
  if p.returnRuns g then
    p.modGroup g fun r =>
      let n := bump 600000 r.returnCount
      { r with returnCount := n, returnExpired := decide (r.settings.returnDelay * 1000 ≤ n) }
  else p

/-- A handover's own effects on one group: the flags end its CONFIRMING or STRANDED first, and what is
then still counting counts (R111, R112, R120). -/
def Part.handGroup (p : Part) (g : Fin 12) : Part :=
  ((p.judgeExit g).modGroup g Group.countHoldOff).countReturn g

/-- The Group Engine takes a handover made at a block completion: its own effects, and then one pass of
the judge, which decides the hold-offs and return timers that it has brought to their end (R108, R111,
R113, R121, R126). -/
def Part.takeHandover (p : Part) : Part := (allGroups.foldl Part.handGroup p).judge

/-- One group's ramp lands, and the Group Engine takes the landing (R116). -/
def Part.landGroup (p : Part) (g : Fin 12) : Part := (p.modGroup g Group.land).judge

/-! ### Pins (R129 to R134) -/

/-- A pin event to rig `x` in REHEARSAL or SHOW (R130). -/
def Part.pinRunning (p : Part) (g : Fin 12) (x : Rig) (cause : Cause) : Part :=
  let r := p.group g
  match r.state with
  | .fading _ =>
    if x = r.source then p.reverse g true cause else p.setGroup g { r with pinned := true }
  | _ =>
    if x = r.source then p.setGroup g { r with state := .held, pinned := true }.stopReturn
    else p.enterFading g true cause

/-- A pin event to rig `x` in STANDBY (R131). -/
def Part.pinStandby (p : Part) (g : Fin 12) (x : Rig) : Part :=
  (p.modGroup g fun r => { r with state := .held, source := x, pinned := true }).syncFollowed

/-- A pin event (R129, R130, R131). -/
def Part.pinEvent (p : Part) (g : Fin 12) (x : Rig) (cause : Cause) : Part :=
  if p.mode = .standby then p.pinStandby g x else p.pinRunning g x cause

/-- An unpin event (R133). -/
def Group.unpin (r : Group) : Group :=
  match r.state with
  | .held => { r with state := .settled, pinned := false }
  | .fading _ => { r with pinned := false }
  | _ => r

/-- A closure's pin or release of every PANEL group, in ascending number, as one arrival
(R136, R137). -/
def Part.panelEvent (p : Part) (c : Contact) : Part :=
  let act := fun (p : Part) (g : Fin 12) =>
    if (p.group g).settings.panel then
      (match c with
       | .contactA => p.pinEvent g .a .panel
       | .contactB => p.pinEvent g .b .panel
       | .contactFree => p.modGroup g Group.unpin)
    else p
  (allGroups.foldl act p).judge

/-! ### Show mode (R102 to R104) -/

/-- What entry into STANDBY does to a group (R103). -/
def Group.enterStandby (r : Group) : Group :=
  let r' := match r.state with
    | .fading _ => r.land
    | .confirming _ | .stranded => r.settle
    | .settled | .held => r
  { r'.stopReturn with reported := false }

/-- What entry into REHEARSAL from SHOW does to a group (R104). -/
def Group.enterRehearsal (r : Group) : Group :=
  match r.state with
  | .confirming _ | .stranded => r.settle.stopReturn
  | .settled | .held | .fading _ => r.stopReturn

/-- Every group's record changed. -/
def Part.modGroups (p : Part) (f : Group → Group) : Part :=
  { p with groups := allGroups.foldl (fun (v : Vector Group 12) (g : Fin 12) => v.set g (f v[g])) p.groups }

/-- The show mode takes a value, with its entry effects (R102, R103, R104). -/
def Part.setMode (p : Part) (m : Mode) : Part :=
  if p.mode = m then p
  else
    let q := { p with mode := m }
    let q := match p.mode, m with
      | _, .standby => q.modGroups Group.enterStandby
      | .shows, .rehearsal => q.modGroups Group.enterRehearsal
      | _, _ => q
    q.judge

/-! ### Reply bodies (R182) -/

/-- DEST and the weight on it, absent outside FADING. -/
def Group.destBytes (r : Group) : List Byte :=
  match r.state with
  | .fading ramp => rigCode (otherRig r.source) :: be16 ramp.weight
  | _ => [0xFF, 0, 0]

/-- The reply body of GROUP_PIN and GROUP_UNPIN. -/
def Part.pinBody (p : Part) (g : Fin 12) : List Byte :=
  let r := p.group g
  [u8 g, r.state.code, rigCode r.source, u8 (bit r.pinned)] ++ r.destBytes

/-- The reply body of GROUP_HOME. -/
def Part.homeBody (p : Part) (g : Fin 12) : List Byte :=
  let r := p.group g
  [u8 g, r.state.code, rigCode r.source]

/-- One byte of the member bitmap: channels 8b to 8b + 7. -/
def Part.memberByte (p : Part) (g : Fin 12) (b : Nat) : Byte :=
  u8 (byteSum ((allChannels.filter fun c => c.val / 8 == b && p.inGroup g c).map
    fun c => u8 (2 ^ (c.val % 8))))

/-- Step and ramp length, 0 outside FADING. -/
def Group.rampBytes (r : Group) : List Byte :=
  match r.state with
  | .fading ramp => be16 ramp.step ++ be16 ramp.length
  | _ => [0, 0, 0, 0]

/-- The hold-off count, 0 outside CONFIRMING. -/
def Group.holdOffBytes (r : Group) : List Byte :=
  match r.state with
  | .confirming n => be16 n
  | _ => [0, 0]

/-- The reply body of GROUP_STATUS and GROUP_CLEAR (R124). -/
def Part.groupStatusBody (p : Part) (g : Fin 12) : List Byte :=
  let r := p.group g
  let flags := bit r.pinned + 2 * bit r.reported + 4 * bit r.returnExpired +
    8 * bit (p.ready g (otherRig r.refRig))
  [u8 g] ++ [0, 1, 2, 3, 4, 5].map (p.memberByte g) ++
  [r.state.code, rigCode r.source, u8 flags] ++ r.destBytes ++ r.rampBytes ++ r.holdOffBytes ++
  be24 r.returnCount ++ [u8 r.glitches, causeCode (p.cause g r.refRig)]

/-! ### Requests -/

/-- A request whose body is one group byte: its refusals, and its execution on the group. -/
def withGroup (body : List Byte) (p : Part) (f : Fin 12 → Answer) : Answer :=
  match body with
  | [b] =>
    match groupOf b with
    | some g => f g
    | none => p.refuse .badValue
  | _ => p.refuse .badLength

/-- GROUP_SET (R97, R98). -/
def reqGroupSet (body : List Byte) (p : Part) : Answer :=
  match body with
  | [b] =>
    match groupOf b with
    | some g => ⟨p, .ok, u8 g :: (p.group g).settings.body⟩
    | none => p.refuse .badValue
  | b :: rest =>
    if rest.length ≠ 15 then p.refuse .badLength
    else
      match groupOf b, parseGroupSettings rest with
      | some g, some (settings, clamped) =>
        let q := if settings = (p.group g).settings then p
          else (p.modGroup g fun r => { r with settings := settings }).judge
        ⟨q, if clamped then .adjusted else .ok, u8 g :: (q.group g).settings.body⟩
      | _, _ => p.refuse .badValue
  | [] => p.refuse .badLength

/-- The groups that would lose a listed channel to the target (R100). -/
def Part.losers (p : Part) (target : Fin 12) (cs : List (Fin 48)) : List (Fin 12) :=
  allGroups.filter fun g => g != target && cs.any (p.inGroup g)

/-- Whether a group is FADING. -/
def Group.isFading (r : Group) : Bool :=
  match r.state with
  | .fading _ => true
  | _ => false

/-- GROUP_ASSIGN (R100, R101). -/
def reqGroupAssign (body : List Byte) (p : Part) : Answer :=
  match body with
  | [] => p.refuse .badLength
  | [_] => p.refuse .badLength
  | t :: list =>
    if 48 < list.length then p.refuse .badLength
    else
      match groupOf t, allSome channelOf list with
      | some g, some cs =>
        let concerned := g :: p.losers g cs
        if !noRepeats cs then p.refuse .badValue
        else if concerned.any fun h => (p.group h).isFading then p.refuse .groupFading
        else if p.mode != .standby &&
            concerned.any (fun h => (p.group h).source != (p.group g).source) then p.refuse .wrongState
        else
          let q := { p with members := cs.foldl (fun (m : Vector (Fin 12) 48) (c : Fin 48) => m.set c g) p.members }
          let q := (q.restartRuns concerned).judge
          ⟨q, .ok, [u8 g, u8 (q.memberCount g)]⟩
      | _, _ => p.refuse .badValue

/-- MODE_SET (R102). -/
def reqModeSet (body : List Byte) (p : Part) : Answer :=
  match body with
  | [b] =>
    match modeOf b with
    | some m => ⟨p.setMode m, .ok, [(p.setMode m).mode.code]⟩
    | none => p.refuse .badValue
  | _ => p.refuse .badLength

/-- GROUP_HOME on one group (R122). -/
def Part.homeGroup (p : Part) (g : Fin 12) : Answer :=
  let r := p.group g
  let done := fun (q : Part) => (⟨q.judge, .ok, (q.judge).homeBody g⟩ : Answer)
  if r.isFading then p.refuse .groupFading
  else if r.source = r.settings.home then
    if r.state = .held then done (p.setGroup g { r with state := .settled, pinned := false })
    else ⟨p, .ok, p.homeBody g⟩
  else if p.mode = .standby then
    done (p.setGroup g { r with state := .settled, source := r.settings.home, pinned := false }).syncFollowed
  else if p.ready g r.settings.home then done (p.enterFading g false .home)
  else p.refuse .notReady

/-- GROUP_HOME (R122). -/
def reqGroupHome (body : List Byte) (p : Part) : Answer := withGroup body p p.homeGroup

/-- GROUP_STATUS (R124). -/
def reqGroupStatus (body : List Byte) (p : Part) : Answer :=
  withGroup body p fun g => ⟨p, .ok, p.groupStatusBody g⟩

/-- GROUP_CLEAR's own effects on the group record (R125). Making REPORTED false begins a new period of the
barred evidence that goes on standing (R110: DESIGN CHOICE, assumption log 50). -/
def Group.clear (r : Group) : Group :=
  { r.land.stopReturn with state := .settled, pinned := false, reported := false, glitches := 0 }

/-- GROUP_CLEAR (R125). The judge takes it at the same arrival: evidence that stands barred after it is
reported afresh, by a second WOULD_MOVE (R110: DESIGN CHOICE, assumption log 50). -/
def reqGroupClear (body : List Byte) (p : Part) : Answer :=
  withGroup body p fun g =>
    let q := ((p.modGroup g Group.clear).restartRuns [g]).judge
    ⟨q, .ok, q.groupStatusBody g⟩

/-- GROUP_PIN (R129). -/
def reqGroupPin (body : List Byte) (p : Part) : Answer :=
  match body with
  | [b, xb] =>
    match groupOf b, rigOf xb with
    | some g, some x =>
      let q := (p.pinEvent g x .pin).judge
      ⟨q, .ok, q.pinBody g⟩
    | _, _ => p.refuse .badValue
  | _ => p.refuse .badLength

/-- GROUP_UNPIN (R133). -/
def reqGroupUnpin (body : List Byte) (p : Part) : Answer :=
  withGroup body p fun g =>
    let q := (p.modGroup g Group.unpin).judge
    ⟨q, .ok, q.pinBody g⟩

end Sys2Proof.Machine
end

