-- ==== Sys2Proof/Machine/Clock.lean ====
section
/-! DEFINITION. The Clock Unit: usable and restored sources, fall-through, restore, and CLOCK_SET
(R24 to R30). The rate at which core sample periods follow each other is not modelled: a
CORE_SAMPLE_PERIOD command is one of them (assumption log 26). -/

namespace Sys2Proof.Machine

/-- PREFERENCE as a list. -/
def Preference.toList (q : Preference) : List Source := [q.first, q.second, q.third]

/-- A lane's restore timer, `none` while stopped (R27). -/
def ClockUnit.timer (c : ClockUnit) : Rig → Option Nat
  | .a => c.timerA
  | .b => c.timerB

/-- A lane's restore timer takes a value. -/
def ClockUnit.setTimer (c : ClockUnit) (x : Rig) (v : Option Nat) : ClockUnit :=
  match x with
  | .a => { c with timerA := v }
  | .b => { c with timerB := v }

/-- Whether a source can pace the core at once (R24). -/
def Part.usable (p : Part) : Source → Bool
  | .laneA => p.rigA.lock == .locked
  | .laneB => p.rigB.lock == .locked
  | .int => true

/-- Whether a source may take over from a source after it in PREFERENCE (R24). -/
def Part.restored (p : Part) : Source → Bool
  | .laneA => p.clock.timerA == some restorePeriods
  | .laneB => p.clock.timerB == some restorePeriods
  | .int => true

/-- The sources that stand before the current source in PREFERENCE. -/
def ClockUnit.earlier (c : ClockUnit) : List Source := c.preference.toList.takeWhile (· != c.current)

/-- The sources that stand after the current source in PREFERENCE. -/
def ClockUnit.later (c : ClockUnit) : List Source := (c.preference.toList.dropWhile (· != c.current)).drop 1

/-- A source becomes current, with CLOCK_CHANGE (R28, R30). -/
def Part.setSource (p : Part) (s : Source) : Part :=
  Part.raise { p with clock := { p.clock with current := s } } (.clockChange s)

/-- The first earlier source that is usable and restored becomes current (R24, R29). -/
def Part.reevaluateSource (p : Part) : Part :=
  match p.clock.earlier.find? fun s => p.usable s && p.restored s with
  | some s => p.setSource s
  | none => p

/-- The fall-through at a loss on the current source's lane (R26). -/
def Part.fallThrough (p : Part) : Part := p.setSource ((p.clock.later.find? p.usable).getD .int)

/-- The Clock Unit takes a lane's loss event: its timer stops, and the current source falls through
if it is that lane (R26, R27). -/
def Part.clockLoss (p : Part) (x : Rig) : Part :=
  let p := { p with clock := p.clock.setTimer x none }
  if p.clock.current = laneSource x then p.fallThrough else p

/-- The Clock Unit takes a lane's lock event: its timer starts at 0 (R27). -/
def Part.clockLock (p : Part) (x : Rig) : Part := { p with clock := p.clock.setTimer x (some 0) }

/-- A lane's restore timer has completed: the lane becomes current if it stands before the current
source (R28). -/
def Part.restoreComplete (p : Part) (x : Rig) : Part :=
  if p.usable (laneSource x) && p.restored (laneSource x) && p.clock.earlier.contains (laneSource x)
  then p.setSource (laneSource x) else p

/-- The restore timers advance in a sample period (R27). -/
def ClockUnit.tick (c : ClockUnit) : ClockUnit :=
  { c with timerA := c.timerA.map (bump restorePeriods), timerB := c.timerB.map (bump restorePeriods) }

/-- A new PREFERENCE is stored and the current source judged again; a list that matches the stored one
changes nothing (R29; assumption log 44). -/
def Part.setPreference (p : Part) (q : Preference) : Part :=
  if q = p.clock.preference then p
  else Part.reevaluateSource { p with clock := { p.clock with preference := q } }

/-- CLOCK_SET (R29). -/
def reqClockSet (body : List Byte) (p : Part) : Answer :=
  match body with
  | [b1, b2, b3] =>
    match sourceOf b1, sourceOf b2, sourceOf b3 with
    | some s1, some s2, some s3 =>
      if !noRepeats [s1, s2, s3] then p.refuse .badValue
      else
        let q := p.setPreference ⟨s1, s2, s3⟩
        ⟨q, .ok, q.clock.preference.body ++ [q.clock.current.code]⟩
    | _, _, _ => p.refuse .badValue
  | _ => p.refuse .badLength

end Sys2Proof.Machine
end

