-- ==== Sys2Proof/Machine/Alignment.lean ====
section
/-! DEFINITION. The Alignment Unit: measurement, tracking decision, skew changes, delay lines, the show
settings and SHOW_SET (R36 to R53). -/

namespace Sys2Proof.Machine

/-! ### Measurement and tracking (R39 to R47) -/

/-- Whether a good marker arrival on rig `x` is a measurement (R39). -/
def Part.measures (p : Part) (x : Rig) : Bool :=
  let y := p.rig (otherRig x)
  (p.rig x).run == some .playing && y.posValid && y.run == some .playing &&
  decide (y.n ≤ p.align.settings.rate.lateBound)

/-- The pending skew that the tracking decision gives (R46). -/
def Part.trackingDecision (p : Part) (d : Int) : Option Int :=
  let t := targetSkew d
  if t = p.align.s then none
  else if p.skewUnheard p.align.s t then some t
  else some (stepToward p.align.s t)

/-- The Alignment Unit takes a good marker of rig `x` (R39, R40, R41, R46, R51). -/
def Part.measure (p : Part) (x : Rig) : Part :=
  match p.measures x, p.rigA.position p.align.settings.rate, p.rigB.position p.align.settings.rate with
  | true, some posA, some posB =>
    let d := offsetOf posA posB
    let q := { p with align := { p.align with d := some d, stale := false } }
    Part.judgeAligned { q with align := { q.align with pendingSkew := q.trackingDecision d } }
  | _, _, _ => { p with align := { p.align with stale := p.align.d.isSome } }

/-- S takes the pending skew at a block boundary, whole if unheard, else one sample toward it (R47). -/
def Part.applySkew (p : Part) : Part :=
  match p.align.pendingSkew with
  | none => p
  | some t =>
    let s := if p.skewUnheard p.align.s t then t else stepToward p.align.s t
    Part.judgeAligned { p with align := { p.align with s := s, pendingSkew := none } }

/-! ### Delay lines (R43) -/

/-- The delay line of a rig. -/
def AlignmentUnit.line (u : AlignmentUnit) : Rig → List (List Sample)
  | .a => u.lineA
  | .b => u.lineB

/-- The samples of one frame enter a delay line; the oldest leave it (R43). -/
def pushLine (line : List (List Sample)) (audio : List Sample) : List (List Sample) :=
  (audio :: line).take 512

/-- The frame the core takes from a rig enters that rig's delay lines (R43). -/
def AlignmentUnit.push (u : AlignmentUnit) (x : Rig) (audio : List Sample) : AlignmentUnit :=
  match x with
  | .a => { u with lineA := pushLine u.lineA audio }
  | .b => { u with lineB := pushLine u.lineB audio }

/-- The delayed sample of a channel from a rig: the sample written d periods earlier (R43). -/
def AlignmentUnit.delayed (u : AlignmentUnit) (x : Rig) (c : Fin 48) : Sample :=
  ((u.line x).getD (delayOf u.s x) []).getD c 0

/-! ### Show settings (R36 to R38) -/

/-- A Rig Port takes a change of show rate (R13). F_last is kept, so that F_LAST can stand above the last
frame of a shorter day until the next good marker (R10, R13: DESIGN CHOICE, assumption log 53). -/
def RigPort.loseRate (r : RigPort) : RigPort :=
  { (r.raiseFault .stall).setRun none with
    posValid := false, seqBase := false, asm := .hunting, recovery := 0 }

/-- A change of show rate reaches one Rig Port, and the Alignment Unit through it (R13, R38, R42). -/
def Part.loseRate (p : Part) (x : Rig) : Part := Part.offsetAfter p x (p.rigArrival x RigPort.loseRate)

/-- The generator takes a change of show rate (R165). -/
def Timecode.loseRate (t : Timecode) : Timecode := if t.state = .off then t else t.enterPending

/-- A change of show rate reaches every block that reads it: rig A, rig B, the generator
(R38; assumption log 29). -/
def Part.changeRate (p : Part) : Part :=
  let p := (p.loseRate .a).loseRate .b
  { p with tc := p.tc.loseRate }

/-- The show settings are stored, with the effects of a changed rate or tolerance (R37, R38, R51). Where both
change, the rate change makes D none first, and the flag is judged by the new tolerance after it: a flag that
the tolerance alone would have made true for an instant stays false and sets no ALIGN delta (DESIGN CHOICE,
assumption log 54). -/
def Part.storeShow (p : Part) (new : ShowSettings) : Part :=
  let old := p.align.settings
  let p := { p with align := { p.align with settings := new } }
  let p := if old.rate = new.rate then p else p.changeRate
  if old.alignTol = new.alignTol then p else p.judgeAligned

/-- SHOW_SET (R37). -/
def reqShowSet (body : List Byte) (p : Part) : Answer :=
  match body with
  | [] => ⟨p, .ok, p.align.settings.body⟩
  | [b, tolB, jumpB, recB] =>
    match showRateOf b with
    | none => p.refuse .badValue
    | some rate =>
      let changes := rate != p.align.settings.rate
      if changes && p.mode != .standby then p.refuse .wrongMode
      else if changes &&
          p.map.recs.any (fun r => decide (rate.dayFrames < r.seg.start + r.seg.length)) then
        p.refuse .wrongState
      else
        let tol := tolB.toNat
        let jump := jumpB.toNat
        let rec' := recB.toNat
        let new : ShowSettings := ⟨rate, clampNat 0 48 tol, clampNat 0 10 jump, clampNat 1 250 rec'⟩
        let clamped := decide (48 < tol) || decide (10 < jump) || decide (rec' < 1) || decide (250 < rec')
        let q := if new = p.align.settings then p else (p.storeShow new).judge
        ⟨q, if clamped then .adjusted else .ok, q.align.settings.body⟩
  | _ => p.refuse .badLength

end Sys2Proof.Machine
end

