-- ==== Sys2Proof/Machine/RigPorts.lean ====
section
/-! DEFINITION. The Rig Ports: lane lock, lane buffer and slips, marker assembler, position tracker,
rig faults, RIG_STATUS and RIG_CLEAR (R2 to R23, R31 to R35). -/

namespace Sys2Proof.Machine

/-! ### Timeouts, slips and the lane buffer -/

/-- Whether a PLAYING rig's n has reached the marker timeout (R15). -/
def RigPort.timedOut (rate : Rate) (r : RigPort) : Bool :=
  r.run == some .playing && decide (rate.timeoutAt ≤ r.n)

/-- The effects of a marker timeout (R15). -/
def RigPort.timeOut (r : RigPort) : RigPort :=
  { (r.raiseFault .stall).setRun none with posValid := false, seqBase := false, recovery := 0 }

/-- Collection under way is broken off and counts as a bad marker (R8). -/
def RigPort.breakOff (r : RigPort) : RigPort :=
  match r.asm with
  | .hunting => r
  | .collecting _ => { r with asm := .hunting, badMarkers := bump 255 r.badMarkers }

/-- The CLOCK test at a slip, and the slip history's move (R35). -/
def RigPort.clockTest (r : RigPort) : RigPort :=
  let r' := match r.slipOlder with
    | some age => if age < 48000 then r.raiseFault .clock else r
    | none => r
  { r' with slipOlder := r.slipNewer, slipNewer := some 0 }

/-- The effects of a slip that a drop and a repeat share (R34). -/
def RigPort.slip (r : RigPort) : RigPort :=
  RigPort.breakOff (RigPort.clockTest { r with slips := bump 255 r.slips })

/-- What a drop does to the tracker: n rises by 8 at once, and may reach the marker timeout (R10,
R15, R34). -/
def RigPort.skipEight (rate : Rate) (r : RigPort) : RigPort :=
  match r.run with
  | none => r
  | some _ =>
    let r' := { r with n := min 65535 (r.n + 8) }
    if r'.timedOut rate then r'.timeOut else r'

/-- A frame that the receiver passes on arrives at the lane buffer (R31, R32). -/
def RigPort.bufferFrame (rate : Rate) (f : Frame) (r : RigPort) : RigPort :=
  match r.bufState with
  | .idle => r
  | .filling =>
    let fs := r.frames ++ [f]
    { r with frames := fs, bufState := if 8 ≤ fs.length then .running else .filling }
  | .running =>
    if r.frames.length < 16 then { r with frames := r.frames ++ [f] }
    else RigPort.skipEight rate (RigPort.slip { r with frames := r.frames.drop 8 ++ [f] })

/-! ### The receiver -/

/-- The loss event in the Rig Port (R5, R31). -/
def RigPort.lose (r : RigPort) : RigPort :=
  { (r.raiseFault .link).setRun none with
    lock := .unlocked, goodRun := 0, posValid := false, seqBase := false, asm := .hunting,
    recovery := 0, bufState := .idle, frames := [], repeatLeft := 0, lastTaken := Frame.silent }

/-- The lock event in the Rig Port (R3, R6, R31). -/
def RigPort.gainLock (r : RigPort) : RigPort :=
  { r with lock := .locked, badRun := 0, bufState := .filling, frames := [] }

/-- A substitute frame (R4). -/
def Frame.substituteFrame : Frame := ⟨silentAudio, 0, true⟩

/-- The receiver takes a frame it has judged, `none` for a malformed or missing one (R2, R3, R4). -/
def RigPort.receive (rate : Rate) (judged : Option Frame) (r : RigPort) : RigPort :=
  match r.lock, judged with
  | .unlocked, some _ =>
    let r' := { r with goodRun := r.goodRun + 1 }
    if 64 ≤ r'.goodRun then RigPort.gainLock { r' with goodRun := 64 } else r'
  | .unlocked, none => { r with goodRun := 0 }
  | .locked, some f => RigPort.bufferFrame rate f { r with badRun := 0 }
  | .locked, none =>
    let r' := { r with badRun := r.badRun + 1 }
    if 4 ≤ r'.badRun then RigPort.lose { r' with badRun := 4 }
    else r'.bufferFrame rate Frame.substituteFrame

/-! ### Assembler and tracker -/

/-- The assembler takes the side byte of a frame; the seven bytes after SYNC come back when a marker
completes (R7, R8). -/
def RigPort.assemble (f : Frame) (r : RigPort) : RigPort × Option (List Byte) :=
  match r.asm with
  | .hunting => if f.side = syncByte then ({ r with asm := .collecting [] }, none) else (r, none)
  | .collecting bs =>
    if f.substitute then (r.breakOff, none)
    else if (bs ++ [f.side]).length = 7 then ({ r with asm := .hunting }, some (bs ++ [f.side]))
    else ({ r with asm := .collecting (bs ++ [f.side]) }, none)

/-- The faults that the recovery rule clears (R18). -/
def RigPort.recover (r : RigPort) : RigPort :=
  let r' := ((r.clearFault .stall).clearFault .jump).clearFault .stopped
  if r.lock = .locked then r'.clearFault .link else r'

/-- The tracker takes a good PLAYING marker (R11, R12, R16, R18). -/
def RigPort.takePlaying (s : ShowSettings) (f : Nat) (r : RigPort) : RigPort :=
  let d := dayDistance s.rate f ((r.fLast + 1) % s.rate.dayFrames)
  let inSequence := r.seqBase && d == 0
  let r' := if r.seqBase && decide (s.jumpTol < d) then r.raiseFault .jump else r
  let r' :=
    { r'.setRun (some .playing) with
      fLast := f, n := 7, posValid := true, seqBase := true,
      recovery := if inSequence then bump 255 r.recovery else 0 }
  if inSequence && decide (s.recovery ≤ r'.recovery) then r'.recover else r'

/-- The tracker takes a good STOPPED or LOCATING marker; `inBody`: its frame stands in a record's
span before the last TAIL frames (R11, R12, R17). -/
def RigPort.takeHalted (f : Nat) (t : Transport) (inBody : Bool) (r : RigPort) : RigPort :=
  let r' :=
    { r.setRun (some t) with
      fLast := f, n := 7, posValid := true, seqBase := false, recovery := 0 }
  if inBody then r'.raiseFault .stopped else r'

/-- Whether a frame stands in some record's span before its last TAIL frames (R17). -/
def SegMap.inBody (m : SegMap) (f : Nat) : Bool :=
  m.recs.any fun r => r.seg.contains f && decide (f < r.seg.start + r.seg.length - r.seg.tail)

/-- The tracker takes a good marker (R11). -/
def RigPort.takeMarker (s : ShowSettings) (inBody : Bool) (f : Nat) (t : Transport) (r : RigPort) :
    RigPort :=
  match t with
  | .playing => r.takePlaying s f
  | .stopped | .locating => r.takeHalted f t inBody

/-! ### Arrivals at a Rig Port, as the other blocks take them -/

/-- Whether nothing that the judge reads from the rigs, the Alignment Unit and the current segments
differs (R108). -/
def Part.judgeSame (p q : Part) : Bool :=
  p.rigA.faults == q.rigA.faults && p.rigA.run == q.rigA.run && p.rigA.posValid == q.rigA.posValid &&
  p.rigB.faults == q.rigB.faults && p.rigB.run == q.rigB.run && p.rigB.posValid == q.rigB.posValid &&
  p.align.aligned == q.align.aligned && p.map.heldA == q.map.heldA && p.map.heldB == q.map.heldB

/-- The Group Engine takes a change of what it judges from (R108; assumption log 14). -/
def Part.judgeChange (before p : Part) : Part := if before.judgeSame p then p else p.judge

/-- An arrival at a Rig Port, taken in turn by the port, the Alignment Unit and the generator
(R20, R42, R160; assumption log 14). -/
def Part.rigEvent (p : Part) (x : Rig) (f : RigPort → RigPort) : Part :=
  Part.freewheelAfter p x (Part.offsetAfter p x (p.rigArrival x f))

/-- The Clock Unit takes a lane's lock or loss event (R26, R27). -/
def Part.clockAfter (before : Part) (x : Rig) (p : Part) : Part :=
  match (before.rig x).lock, (p.rig x).lock with
  | .locked, .unlocked => p.clockLoss x
  | .unlocked, .locked => p.clockLock x
  | _, _ => p

/-- A frame ends on a lane, or is missing: every block's share of it (R2, R3). -/
def Part.receiveFrame (p : Part) (x : Rig) (judged : Option Frame) : Part :=
  let q := p.rigEvent x (RigPort.receive p.align.settings.rate judged)
  Part.judgeChange p (Part.clockAfter p x q)

/-- A marker timeout that is due on a rig (R15). -/
def Part.markerTimeout (p : Part) (x : Rig) : Part :=
  if (p.rig x).timedOut p.align.settings.rate then
    Part.judgeChange p (p.rigEvent x RigPort.timeOut)
  else p

/-- CLOCK leaves the fault set when the age of the most recent slip has reached 480,000 (R35). -/
def Part.clockFaultClear (p : Part) (x : Rig) : Part :=
  if (p.rig x).faults.clock && (p.rig x).slipNewer.any (fun age => decide (slipAgeLimit ≤ age)) then
    Part.judgeChange p (p.rigEvent x fun r => r.clearFault .clock)
  else p

/-- A good marker arrival, taken by the tracker, the Segment Map, the Alignment Unit, the generator
and the judge (R9, R11, R39, R58, R157 to R163; assumption log 14). A further jump of a rig that carries
JUMP already is no fault that joins its set: a generator in FOLLOW on it makes the re-jam test (R160: DESIGN
CHOICE, assumption log 52). -/
def Part.goodMarker (p : Part) (x : Rig) (f : Nat) (t : Transport) : Part :=
  let q := p.rigArrival x (RigPort.takeMarker p.align.settings (p.map.inBody f) f t)
  let jumped := (q.rig x).faults.jump && !(p.rig x).faults.jump
  Part.judgeChange p (((q.resegment x).measure x).tcMarker x t jumped)

/-- A bad marker (R9). -/
def RigPort.countBad (r : RigPort) : RigPort := { r with badMarkers := bump 255 r.badMarkers }

/-- A complete marker is judged (R9). -/
def Part.completeMarker (p : Part) (x : Rig) (bytes : List Byte) : Part :=
  match judgeMarker p.align.settings.rate bytes with
  | some (f, t) => p.goodMarker x f t
  | none => p.setRig x (p.rig x).countBad

/-! ### The core takes a frame (R31 to R33) -/

/-- The copy a repeat gives: the last frame's samples, an idle side byte and no substitute mark (R33). -/
def RigPort.repeated (r : RigPort) : Frame := ⟨r.lastTaken.audio, 0, false⟩

/-- The frame the core takes in a sample period (R31, R32, R33). -/
def RigPort.nextFrame (r : RigPort) : Frame :=
  match r.bufState with
  | .running =>
    if 0 < r.repeatLeft then r.repeated
    else
      match r.frames with
      | [] => r.repeated
      | f :: _ => f
  | .idle | .filling => Frame.silent

/-- What taking it does to the port: a slip by repeat at fill 0, and n's count (R10, R33). -/
def RigPort.takeFrame (r : RigPort) : RigPort :=
  match r.bufState with
  | .running =>
    if 0 < r.repeatLeft then { r with repeatLeft := r.repeatLeft - 1 }
    else
      match r.frames with
      | [] => { r.slip with repeatLeft := 7 }
      | f :: fs =>
        { r with
          frames := fs, lastTaken := f, n := if r.run.isSome then bump 65535 r.n else r.n }
  | .idle | .filling => r

/-- The assembler's share of a frame taken, and the marker it may complete (R7, R9). -/
def Part.feedAssembler (p : Part) (x : Rig) (f : Frame) : Part :=
  let out := (p.rig x).assemble f
  let q := p.setRig x out.1
  match out.2 with
  | none => q
  | some bytes => q.completeMarker x bytes

/-- The core takes a rig's frame in a sample period: n counts it, and its samples enter the delay
lines (R10, R32, R33, R43). -/
def Part.takeRigFrame (p : Part) (x : Rig) : Part :=
  let f := (p.rig x).nextFrame
  let q := Part.judgeChange p (p.rigEvent x RigPort.takeFrame)
  { q with align := q.align.push x f.audio }

/-- The side byte of the frame a rig gave reaches its assembler, and a timeout of the same sample
period is taken before a marker it completes where `timeoutFirst` (R7, R15). -/
def Part.takeRigMarker (timeoutFirst : Bool) (p : Part) (x : Rig) (f : Frame) : Part :=
  let q := if timeoutFirst then p.markerTimeout x else p
  q.feedAssembler x f

/-- The slip history's ages advance in a sample period (R35). -/
def RigPort.ageSlips (r : RigPort) : RigPort :=
  { r with slipNewer := r.slipNewer.map (bump slipAgeLimit),
           slipOlder := r.slipOlder.map (bump slipAgeLimit) }

/-! ### Requests -/

/-- The rig status body, with the delta set to be shown (R22, R182). -/
def Part.rigStatusBody (p : Part) (x : Rig) (deltas : DeltaSet) : List Byte :=
  let r := p.rig x
  [rigCode x, u8 (bit (r.lock == .locked)), u8 r.faults.bitmap, u8 deltas.bitmap, runCode r.run,
    u8 (bit r.posValid)] ++ be24 r.fLast ++ be16 r.n ++ [u8 r.recovery, u8 r.slips, u8 r.badMarkers]

/-- A request whose body is one rig byte. -/
def withRig (body : List Byte) (p : Part) (f : Rig → Answer) : Answer :=
  match body with
  | [b] =>
    match rigOf b with
    | some x => f x
    | none => p.refuse .badValue
  | _ => p.refuse .badLength

/-- RIG_STATUS (R22). -/
def reqRigStatus (body : List Byte) (p : Part) : Answer :=
  withRig body p fun x =>
    ⟨p.setRig x { p.rig x with deltas := DeltaSet.empty }, .ok, p.rigStatusBody x (p.rig x).deltas⟩

/-- RIG_CLEAR's effect on the port (R23). -/
def RigPort.clear (r : RigPort) : RigPort :=
  { r with
    deltas := DeltaSet.empty, slips := 0, badMarkers := 0,
    faults := { FaultSet.empty with link := r.faults.link && r.lock == .unlocked },
    recovery := 0, slipNewer := none, slipOlder := none }

/-- RIG_CLEAR (R23). -/
def reqRigClear (body : List Byte) (p : Part) : Answer :=
  withRig body p fun x =>
    let q := (p.setRig x (p.rig x).clear).judge
    ⟨q, .ok, q.rigStatusBody x (q.rig x).deltas⟩

end Sys2Proof.Machine
end

