-- ==== Sys2Proof/Machine/Segments.lean ====
section
/-! DEFINITION. The Segment Map's requests: inserting, amending, retiring, looking up, clearing, and the
cursor (R54 to R81). -/

namespace Sys2Proof.Machine

/-! ### Lookup form (R73, R182) -/

/-- A record in lookup form: its body, its STATE and its holders. -/
def SegMap.lookupForm (m : SegMap) (r : SegRecord) : List Byte :=
  r.seg.body ++ [u8 (bit r.retiring),
    u8 (rigsBitmap (m.heldA == some r.seg.id) (m.heldB == some r.seg.id))]

/-- The lookup form of the record with a SEG_ID, empty if there is none. -/
def SegMap.lookupId (m : SegMap) (id : Nat) : List Byte :=
  match m.find id with
  | some r => m.lookupForm r
  | none => []

/-! ### Keeping the order of START (R56) -/

/-- A record put in its place by START (R66). -/
def insertByStart (r : SegRecord) : List SegRecord → List SegRecord
  | [] => [r]
  | q :: qs => if r.seg.start < q.seg.start then r :: q :: qs else q :: insertByStart r qs

/-- Whether a SEG_ID is in the map. -/
def SegMap.hasId (m : SegMap) (id : Nat) : Bool := m.recs.any fun r => r.seg.id == id

/-- Whether a span shares a frame with a record of another SEG_ID than `except` (R65, R67). -/
def SegMap.overlapsBut (m : SegMap) (s : Segment) (except : Option Nat) : Bool :=
  m.recs.any fun r => some r.seg.id != except && r.seg.overlaps s

/-- The order and span conditions of the map: ascending START with no frame in two spans (R56). -/
def spansOrdered : List SegRecord → Bool
  | q :: r :: rest => decide (q.seg.start + q.seg.length ≤ r.seg.start) && spansOrdered (r :: rest)
  | _ => true

/-- The conditions of R56 on the map: order, no shared frame, no SEG_ID twice, at most 160 records. -/
def SegMap.wf (m : SegMap) : Bool :=
  spansOrdered m.recs && noRepeats (m.recs.map fun r => r.seg.id) && decide (m.recs.length ≤ mapCapacity)

/-! ### Editing requests -/

/-- SEG_INSERT (R65, R66). -/
def reqSegInsert (body : List Byte) (p : Part) : Answer :=
  match parseSegment p.align.settings.rate body with
  | .error r => p.refuse r
  | .ok (s, clamped) =>
    if mapCapacity ≤ p.map.recs.length then p.refuse .mapFull
    else if p.map.hasId s.id then p.refuse .duplicateId
    else if p.map.overlapsBut s none then p.refuse .overlap
    else
      let m := { p.map with recs := insertByStart ⟨s, false⟩ p.map.recs }.bumpGeneration
      let q := Part.resegmentValid { p with map := m }
      let q := q.judge
      ⟨q, if clamped then .adjusted else .ok, q.map.lookupId s.id⟩

/-- SEG_AMEND (R67, R68). -/
def reqSegAmend (body : List Byte) (p : Part) : Answer :=
  match parseSegment p.align.settings.rate body with
  | .error r => p.refuse r
  | .ok (s, clamped) =>
    match p.map.find s.id with
    | none => p.refuse .notFound
    | some old =>
      if old.retiring then p.refuse .wrongState
      else if p.map.overlapsBut s (some s.id) then p.refuse .overlap
      else
        let m := { p.map with recs := insertByStart ⟨s, false⟩ (p.map.remove s.id).recs }.bumpGeneration
        let q := Part.resegmentValid { p with map := m }
        let q := q.judge
        ⟨q, if clamped then .adjusted else .ok, q.map.lookupId s.id⟩

/-- A request whose body is a SEG_ID in two bytes (R69, R73). -/
def withSegId (body : List Byte) (p : Part) (f : SegRecord → Answer) : Answer :=
  match body with
  | [b1, b0] =>
    let id := num2 b1 b0
    if id = 0 || 4095 < id then p.refuse .badValue
    else
      match p.map.find id with
      | some r => f r
      | none => p.refuse .notFound
  | _ => p.refuse .badLength

/-- A record's STATE becomes RETIRING. -/
def SegMap.retire (m : SegMap) (id : Nat) : SegMap :=
  { m with recs := m.recs.map fun r => if r.seg.id = id then { r with retiring := true } else r }

/-- SEG_RETIRE (R69, R70). -/
def reqSegRetire (body : List Byte) (p : Part) : Answer :=
  withSegId body p fun r =>
    let id := r.seg.id
    if r.retiring then ⟨p, .ok, [2]⟩
    else if p.map.heldA == some id || p.map.heldB == some id then
      ⟨{ p with map := (p.map.retire id).bumpGeneration }, .ok, [1]⟩
    else ⟨{ p with map := (p.map.remove id).bumpGeneration }, .ok, [0]⟩

/-- MAP_CLEAR (R76). -/
def reqMapClear (body : List Byte) (p : Part) : Answer :=
  match body with
  | [] =>
    if p.mode != .standby then p.refuse .wrongMode
    else
      let m := { p.map with recs := [], heldA := none, heldB := none }.bumpGeneration
      let q := Part.judge { p with map := m }
      ⟨q, .ok, be16 m.generation⟩
  | _ => p.refuse .badLength

/-! ### Looking up -/

/-- SEG_FIND (R73). -/
def reqSegFind (body : List Byte) (p : Part) : Answer :=
  withSegId body p fun r => ⟨p, .ok, p.map.lookupForm r⟩

/-- SEG_LOCATE (R74). -/
def reqSegLocate (body : List Byte) (p : Part) : Answer :=
  match body with
  | [b2, b1, b0] =>
    let f := num3 b2 b1 b0
    if p.align.settings.rate.dayFrames ≤ f then p.refuse .badValue
    else
      match p.map.recs.find? fun r => r.seg.contains f with
      | some r => ⟨p, .ok, 0 :: p.map.lookupForm r⟩
      | none =>
        match p.map.recs.find? fun r => decide (f < r.seg.start) with
        | some r => ⟨p, .ok, 1 :: p.map.lookupForm r⟩
        | none => p.refuse .notFound
  | _ => p.refuse .badLength

/-- MAP_STATUS (R75). -/
def reqMapStatus (body : List Byte) (p : Part) : Answer :=
  match body with
  | [] =>
    let m := p.map
    ⟨p, .ok, [u8 m.recs.length, u8 (m.recs.countP SegRecord.retiring)] ++ be16 m.generation ++
      [u8 m.cursorIndex] ++ be16 m.cursorGen ++ be16 (m.heldA.getD 0) ++ be16 (m.heldB.getD 0)⟩
  | _ => p.refuse .badLength

/-! ### Cursor -/

/-- CURSOR_SET (R79). -/
def reqCursorSet (body : List Byte) (p : Part) : Answer :=
  match body with
  | [b] =>
    if 159 < b.toNat then p.refuse .badValue
    else
      let m := { p.map with cursorIndex := b.toNat, cursorGen := p.map.generation }
      ⟨{ p with map := m }, .ok, [b] ++ be16 m.generation ++ [u8 m.recs.length]⟩
  | _ => p.refuse .badLength

/-- CURSOR_NEXT (R80). -/
def reqCursorNext (body : List Byte) (p : Part) : Answer :=
  match body with
  | [] =>
    let m := p.map
    if m.cursorGen ≠ m.generation then ⟨p, .staleCursor, be16 m.generation⟩
    else
      match m.recs[m.cursorIndex]? with
      | none => ⟨p, .endOfWalk, be16 m.generation⟩
      | some r =>
        ⟨{ p with map := { m with cursorIndex := m.cursorIndex + 1 } }, .ok,
          m.lookupForm r ++ be16 m.generation⟩
  | _ => p.refuse .badLength

/-! ### A slot load's map (R77) -/

/-- The map takes the saved records of a slot (R77). -/
def Part.loadMap (p : Part) (segs : List Segment) : Part :=
  let g := (p.map.generation + 1) % 65536
  let m : SegMap := ⟨segs.map fun s => ⟨s, false⟩, none, none, g, 0, g⟩
  let held := fun (r : RigPort) (x : Rig) => if r.posValid then m.currentFor x r.fLast else none
  { p with map := { m with heldA := held p.rigA .a, heldB := held p.rigB .b } }

end Sys2Proof.Machine
end

