-- ==== Sys2Proof/Machine/Watch.lean ====
section
/-! DEFINITION. The Activity Watch: running peaks, the judgements of a block completion and
WATCH_STATUS (R82 to R95). -/

namespace Sys2Proof.Machine

/-- The magnitude of a sample: its value with its sign removed (R82). -/
def magnitude (x : Sample) : Nat := x.toInt.natAbs

/-- A running peak of a list, 0 where none stands. -/
def peakAt (peaks : List Nat) (c : Fin 48) : Nat := peaks.getD c 0

/-- The running peaks of a rig after one sample period's delayed samples (R82). -/
def AlignmentUnit.raisePeaks (u : AlignmentUnit) (x : Rig) (peaks : List Nat) : List Nat :=
  allChannels.map fun c => max (peakAt peaks c) (magnitude (u.delayed x c))

/-- The Watch reads the delayed samples of a sample period (R82). -/
def Part.raisePeaks (p : Part) : Part :=
  { p with watch := { p.watch with
      peaksA := p.align.raisePeaks .a p.watch.peaksA,
      peaksB := p.align.raisePeaks .b p.watch.peaksB } }

/-- The largest block peak among a group's member channels (R83). -/
def Part.groupPeak (p : Part) (g : Fin 12) (peaks : List Nat) : Nat :=
  (allChannels.filter (p.inGroup g)).foldl (fun m c => max m (peakAt peaks c)) 0

/-- A quiet run after a block: up by one if no member was active, else 0 (R83, R84). -/
def nextRun (threshold run peak : Nat) : Nat := if threshold ≤ peak then 0 else bump 65535 run

/-- A group's watch after a block completion, less the both-quiet flag (R83, R84, R87, R88). E is as the
group's terms stand at the completion: a marker that changes them in the block's 48th period comes before it or
after it, as the sender says (R87; assumption log 47), and markers of both rigs stand on the same side of it
(R87: DESIGN CHOICE, assumption log 57). -/
def Part.judgeBlock (p : Part) (g : Fin 12) : GroupWatch :=
  let w := p.watch.groups[g]
  if p.hasMembers g then
    let s := (p.group g).settings
    let pa := p.groupPeak g p.watch.peaksA
    let pb := p.groupPeak g p.watch.peaksB
    let ra := nextRun s.threshold w.runA pa
    let rb := nextRun s.threshold w.runB pb
    let counts := p.expectation g != .quiet
    { w with
      peakA := pa, peakB := pb, runA := ra, runB := rb,
      mismatchA := counts && decide (s.quietWindow ≤ ra) && decide (rb < s.quietWindow),
      mismatchB := counts && decide (s.quietWindow ≤ rb) && decide (ra < s.quietWindow) }
  else { w with peakA := 0, peakB := 0, runA := 0, runB := 0, mismatchA := false, mismatchB := false }

/-- Whether a group has a both-quiet onset, once its runs have been updated (R91). -/
def Part.onset (p : Part) (g : Fin 12) : Bool :=
  let w := p.watch.groups[g]
  let win := (p.group g).settings.quietWindow
  p.hasMembers g && w.armed && p.expectation g == .active && decide (win ≤ w.runA) && decide (win ≤ w.runB)

/-- The both-quiet flag after a block completion (R91, R92). -/
def Part.nextArmed (p : Part) (g : Fin 12) : Bool :=
  let w := p.watch.groups[g]
  let win := (p.group g).settings.quietWindow
  if decide (w.runA < win) || decide (w.runB < win) then true else w.armed && !p.onset g

/-- The Watch judges the block of every group (R83, R84, R88), and the running peaks start again at
0 (R82). -/
def Part.judgeBlocks (p : Part) : Part :=
  { p with watch :=
    { peaksA := zeroPeaks, peaksB := zeroPeaks,
      groups := allGroups.foldl
        (fun (v : Vector GroupWatch 12) (g : Fin 12) => v.set g (p.judgeBlock g)) p.watch.groups } }

/-- One group's both-quiet test: BOTH_QUIET outside STANDBY at an onset, and the flag's change
(R91, R92). -/
def Part.testOnset (p : Part) (g : Fin 12) : Part :=
  let w := p.watch.groups[g]
  let q := { p with watch := { p.watch with
    groups := p.watch.groups.set g { w with armed := p.nextArmed g } } }
  if p.onset g && p.mode != .standby then q.raise (.bothQuiet g) else q

/-- The both-quiet tests of a block completion (R91), in ascending group number, so that BOTH_QUIET keeps
the highest group of several (DESIGN CHOICE: R178 allows any order; assumption log 48). -/
def Part.testOnsets (p : Part) : Part := allGroups.foldl Part.testOnset p

/-- WATCH_STATUS (R94). -/
def reqWatchStatus (body : List Byte) (p : Part) : Answer :=
  withGroup body p fun g =>
    let w := p.watch.groups[g]
    ⟨p, .ok, [u8 g, u8 (p.memberCount g), (p.expectation g).code] ++
      be16 (p.group g).settings.quietWindow ++ be16 w.runA ++ be16 w.runB ++ be24 w.peakA ++
      be24 w.peakB ++ [u8 (bit w.mismatchA + 2 * bit w.mismatchB + 4 * bit w.armed)]⟩

end Sys2Proof.Machine
end

