-- ==== Sys2Proof/Machine/Panels.lean ====
section
/-! DEFINITION. The Panel Interface: the reading of the contacts at a block completion, closures and
openings (R135 to R138). -/

namespace Sys2Proof.Machine

/-- One of the three contacts. -/
def Panel.get (n : Panel) : Contact → PanelContact
  | .contactA => n.a
  | .contactB => n.b
  | .contactFree => n.free

/-- The panel with one contact replaced. -/
def Panel.put (n : Panel) (c : Contact) (v : PanelContact) : Panel :=
  match c with
  | .contactA => { n with a := v }
  | .contactB => { n with b := v }
  | .contactFree => { n with free := v }

/-- A contact is read at a block completion: the change count becomes 0 on agreement and rises by
one on difference (R135). At 10 a closure or an opening is due (assumption log 34). -/
def PanelContact.read (k : PanelContact) : PanelContact :=
  if k.rawClosed = k.closed then { k with change := 0 } else { k with change := bump 10 k.change }

/-- The three contacts' raw levels take new values. -/
def Panel.setRaw (n : Panel) (a b free : Bool) : Panel :=
  ⟨{ n.a with rawClosed := a }, { n.b with rawClosed := b }, { n.free with rawClosed := free }⟩

/-- The Panel Interface reads all three contacts (R135). -/
def Panel.read (n : Panel) : Panel := ⟨n.a.read, n.b.read, n.free.read⟩

/-- Whether a closure is due: the change count stands at 10 with the contact OPEN (R135). -/
def PanelContact.closureDue (k : PanelContact) : Bool := k.change == 10 && !k.closed

/-- Whether an opening is due. -/
def PanelContact.openingDue (k : PanelContact) : Bool := k.change == 10 && k.closed

/-- A closure: the debounced state becomes CLOSED, the closure count rises, and outside STANDBY the
PANEL groups are pinned or released (R135, R136, R137). -/
def Part.contactClosure (p : Part) (c : Contact) : Part :=
  let k := p.panel.get c
  if k.closureDue then
    let k' := { k with closed := true, change := 0, closures := bump 255 k.closures }
    let q := { p with panel := p.panel.put c k' }
    if p.mode = .standby then q else q.panelEvent c
  else p

/-- An opening: the debounced state becomes OPEN (R135). -/
def Part.contactOpening (p : Part) (c : Contact) : Part :=
  let k := p.panel.get c
  if k.openingDue then { p with panel := p.panel.put c { k with closed := false, change := 0 } } else p

/-! ### The block completion (R47, R82 to R92, R111, R120, R135; assumption log 11, 32) -/

/-- A block completion is due and its handover has not been made. -/
def Part.handoverDue (p : Part) : Bool := p.blockPhase == 48 && !p.handedOver

/-- A block completion up to its handover, when that is due: skew and the aligned flag, the Watch's
judgements with the both-quiet tests, and the handover. -/
def Part.handOver (p : Part) : Part :=
  if p.handoverDue then
    let q := Part.judgeChange p p.applySkew
    { ((q.judgeBlocks).testOnsets).takeHandover with handedOver := true }
  else p

/-- Closures and openings, taken one after another where they are due (R138). -/
def Part.takeContacts (p : Part) (cs : List Contact) : Part :=
  cs.foldl (fun p c => (p.contactClosure c).contactOpening c) p

/-- A block completion that is due: the contacts' readings, the closures and openings that are taken first,
and the handover, unless it has been made ahead. So a closure is taken before the expiry that the handover
brings or after it, as the sender says (R134; assumption log 56), while a host's GROUP_PIN, GROUP_UNPIN or
GROUP_HOME never comes between a closure that is taken first and the handover, though R134 does not bind the two
(DESIGN CHOICE, assumption log 58). Whether the completion comes before or
after the markers and the ramp advance of the block's 48th period is for the sender to say, and so is it of
the reversals and early landings that it or a closure makes (R46, R87, R112, R147, R148; assumption log 47). -/
def Part.blockCompletion (p : Part) (contactsFirst : List Contact) : Part :=
  if p.blockPhase = 48 then
    let q := Part.handOver ({ p with panel := p.panel.read }.takeContacts contactsFirst)
    { q with blockPhase := 0, handedOver := false }
  else p

/-- Whether the handover that is due is the last that some CONFIRMING group waits for (R111). -/
def Part.holdOffDue (p : Part) : Bool :=
  p.handoverDue && allGroups.any fun g =>
    match (p.group g).state with
    | .confirming n => decide (n ≤ 1)
    | _ => false

/-- The expiry of hold-offs: the handover that takes a count to 0 is made, with the decision (R111, R113;
assumption log 11). -/
def Part.expireHoldOffs (p : Part) : Part := if p.holdOffDue then p.handOver else p

/-- Whether the handover that is due takes some running return timer to RETURN_DELAY (R120). -/
def Part.returnDue (p : Part) : Bool :=
  p.handoverDue && allGroups.any fun g =>
    p.returnRuns g && !(p.group g).returnExpired &&
    decide ((p.group g).settings.returnDelay * 1000 ≤ (p.group g).returnCount + 1)

/-- The expiry of return timers: the handover that takes a count to RETURN_DELAY is made, and brings home
what stands in a gap (R120, R121; assumption log 11). -/
def Part.expireReturns (p : Part) : Part := if p.returnDue then p.handOver else p

end Sys2Proof.Machine
end

