-- ==== Sys2Proof/Machine/Mixer.lean ====
section
/-! DEFINITION. The Fade Mixer: ramps, landings and the output lane (R140 to R152). -/

namespace Sys2Proof.Machine

/-! ### Ramps (R141, R142) -/

/-- A group's ramp one step on, unless it began in this very sample period (R142). -/
def Group.advance (r : Group) : Group :=
  match r.state with
  | .fading ramp =>
    if ramp.age = .thisPeriod then r else { r with state := .fading { ramp with step := ramp.step + 1 } }
  | _ => r

/-- Whether a group's ramp stands at its length (R142). -/
def Group.atLanding (r : Group) : Bool :=
  match r.state with
  | .fading ramp => decide (ramp.length ≤ ramp.step)
  | _ => false

/-- A group's ramp lands if it stands at its length (R142, R116). -/
def Group.landIfDue (r : Group) : Group := if r.atLanding then r.land else r

/-- The ramps of a sample period advance, and the landings among them are taken (R142). -/
def Part.advanceRamps (p : Part) : Part :=
  let q := p.modGroups Group.advance
  if allGroups.any fun g => (q.group g).atLanding then (q.modGroups Group.landIfDue).judge else q

/-- A landing is due: the ramp's next advance takes its step to its length (R142; assumption log 12). -/
def Group.landingDue (r : Group) : Bool := r.advance.atLanding && r.state != r.advance.state

/-- The landing of one group's ramp, taken ahead of the rest of its sample period (R116, R142). -/
def Part.landing (p : Part) (g : Fin 12) : Part :=
  if (p.group g).landingDue then
    ({ p with early := true }.modGroup g Group.advance).landGroup g
  else p

/-- The age of a ramp as the sample period's work begins, with `ofLast` as in `Orders`: a ramp of the
last period advances in this one, a ramp of this one does not (R141, R142; assumption log 10). -/
def Ramp.enterPeriod (ofLast : Nat) (r : Ramp) : Ramp :=
  match r.age with
  | .sinceLast n => { r with age := if n ≤ ofLast then .older else .thisPeriod }
  | .older | .thisPeriod => r

/-- A change to a group's ramp. -/
def Group.modRamp (f : Ramp → Ramp) (r : Group) : Group :=
  match r.state with
  | .fading ramp => { r with state := .fading (f ramp) }
  | _ => r

/-- The age of a ramp once the sample period is over. -/
def Ramp.leavePeriod (r : Ramp) : Ramp := { r with age := .older }

/-! ### The mix (R144, R145) -/

/-- The blend of the source's sample and the other rig's under destination weight `u` (R144). -/
def mixSample (xs xd : Sample) (u : Nat) : Sample :=
  BitVec.ofInt 24 ((xs.toInt * (32768 - (u : Int)) + xd.toInt * u + 16384) / 32768)

/-- The output sample of a channel outside STANDBY (R144, R151). -/
def Part.mixChannel (p : Part) (c : Fin 48) : Sample :=
  let r := p.group p.members[c]
  mixSample (p.align.delayed r.source c) (p.align.delayed (otherRig r.source) c) r.destWeight

/-- The 48 output samples of a sample period (R144, R150). -/
def Part.outputSamples (p : Part) : List Sample :=
  if p.mode = .standby then silentAudio else allChannels.map p.mixChannel

end Sys2Proof.Machine
end

