-- ==== Sys2Proof/Machine/TimecodeGen.lean ====
section
/-! DEFINITION. The Timecode Generator's sending: markers, the cadence, crossings, and TC_SET
(R153 to R162). Its jams, entries and changes of followed rig stand in Ops.lean. -/

namespace Sys2Proof.Machine

/-! ### Markers (R156, R161, R162) -/

/-- The run state a marker begun now carries: STOPPED in HOLD, else the run state sent (R162). -/
def Timecode.runShown (t : Timecode) : Transport := if t.state = .hold then .stopped else t.runSent

/-- A marker naming F_out begins: its bytes are fixed, C becomes 0, and FREEWHEEL counts it (R156,
R157, R161). -/
def Timecode.beginMarker (rate : Rate) (t : Timecode) : Timecode :=
  match t.fOut with
  | none => t
  | some f =>
    { t with
      sending := markerBytes rate f t.runShown, cadence := 0, owed := false,
      freewheelCount :=
        if t.state = .freewheel then bump 250 t.freewheelCount else t.freewheelCount }

/-- F_out steps before a marker of the cadence in FREEWHEEL and RUN_ON under PLAYING (R161, R162). -/
def Timecode.stepFrame (rate : Rate) (t : Timecode) : Timecode :=
  if (t.state = .freewheel ∨ t.state = .runOn) ∧ t.runSent = .playing
  then { t with fOut := t.fOut.map fun f => (f + 1) % rate.dayFrames } else t

/-- A marker of the cadence begins (R158, R161, R162). -/
def Timecode.beginCadence (rate : Rate) (t : Timecode) : Timecode :=
  Timecode.beginMarker rate (Timecode.stepFrame rate t)

/-- TC_CADENCE_MARKER: a self-timed generator whose C reaches SPF in the coming sample period begins
its marker in it (R157, R161; assumption log 12). -/
def Part.cadenceMarker (p : Part) : Part :=
  let rate := p.align.settings.rate
  if p.tcSelfTimed && p.tc.sending.isEmpty && !p.tc.owed && !p.tc.begunAhead &&
      decide (rate.spf ≤ p.tc.cadence + 1)
  then { p with early := true, tc := { p.tc.beginCadence rate with begunAhead := true } }
  else p

/-- FREEWHEEL_LIMIT_REACHED: the freewheel count stands at its limit and END_MODE applies (R162). -/
def Part.freewheelLimit (p : Part) : Part := { p with tc := p.tc.applyLimit }

/-! ### A sample period of the generator (R156 to R158) -/

/-- C counts the sample period; it stays 0 while pending, and a marker begun ahead has set it already
(R157). -/
def Timecode.countPeriod (t : Timecode) : Timecode :=
  if t.begunAhead then { t with begunAhead := false }
  else { t with cadence := if t.isPending then 0 else bump 65535 t.cadence }

/-- The crossing test of FOLLOW: the aligned frame of a PLAYING followed rig has become one past
F_out, which advances, and a marker is due (R158; assumption log 20). -/
def Part.crossing (p : Part) : Part :=
  match p.tc.state, p.tc.fOut, (p.rig p.tc.followed).run, p.alignedFrame p.tc.followed with
  | .follow, some f, some .playing, some fa =>
    if fa = (f + 1) % p.align.settings.rate.dayFrames
    then { p with tc := { p.tc with fOut := some fa, owed := true } } else p
  | _, _, _, _ => p

/-- A marker that is due begins, once no other is being sent (R156). -/
def Part.beginDue (p : Part) : Part :=
  let rate := p.align.settings.rate
  if !p.tc.sending.isEmpty then p
  else if p.tc.owed then { p with tc := p.tc.beginMarker rate }
  else if p.tcSelfTimed && decide (rate.spf ≤ p.tc.cadence) then { p with tc := p.tc.beginCadence rate }
  else p

/-- The line carries the next byte of the marker in progress, or the idle byte (R156). -/
def Part.sendByte (p : Part) : Part :=
  match p.tc.sending with
  | b :: bs => { p with tcOut := some b, tc := { p.tc with sending := bs } }
  | [] => { p with tcOut := some 0 }

/-- The generator's share of a core sample period (R156, R157, R158). -/
def Part.tcPeriod (p : Part) : Part :=
  ((Part.crossing { p with tc := p.tc.countPeriod }).beginDue).sendByte

/-! ### TC_SET (R153) -/

/-- The four timecode settings. -/
def TcSettings.body (s : TcSettings) : List Byte :=
  [u8 (bit s.enable), u8 s.leader, u8 s.freewheelLimit, s.endMode.code]

/-- F_out, 0xFFFFFF when absent (R182). -/
def frameBytes : Option Nat → List Byte
  | some f => be24 f
  | none => [0xFF, 0xFF, 0xFF]

/-- The reply body of TC_SET (R153, R182). -/
def Timecode.body (t : Timecode) : List Byte :=
  t.settings.body ++ [t.state.code, rigCode t.followed] ++ frameBytes t.fOut ++
  [t.runSent.code, u8 t.freewheelCount]

/-- TC_SET (R153, R154). -/
def reqTcSet (body : List Byte) (p : Part) : Answer :=
  match body with
  | [] => ⟨p, .ok, p.tc.body⟩
  | [eb, lb, fb, mb] =>
    match flagOf eb, groupOf lb, endModeOf mb with
    | some enable, some leader, some endMode =>
      let limit := fb.toNat
      let new : TcSettings := ⟨enable, leader, min 250 limit, endMode⟩
      let q := p.applyTcSettings new
      ⟨q, if 250 < limit then .adjusted else .ok, q.tc.body⟩
    | _, _, _ => p.refuse .badValue
  | _ => p.refuse .badLength

end Sys2Proof.Machine
end

