-- ==== Sys2Proof/Machine/Stores.lean ====
section
/-! DEFINITION. The Show Store: saving, erasing, loading, and the slots' attributes (R183 to R189). -/

namespace Sys2Proof.Machine

/-- A slot of the store. -/
def Store.slot (s : Store) (k : Fin 8) : Slot := s.slots[k]

/-- The part with its store replaced. -/
def Part.setStore (p : Part) (s : Store) : Part := { p with store := s }

/-! ### Saving and erasing (R184 to R187) -/

/-- The running configuration, less the RETIRING records (R183, R184). -/
def Part.snapshot (p : Part) : ShowContents where
  show' := p.align.settings
  preference := p.clock.preference
  tc := p.tc.settings
  groups := p.groups.map Group.settings
  members := p.members
  segs := (p.map.recs.filter fun r => !r.retiring).map SegRecord.seg

/-- SLOT_SAVE (R184). -/
def reqSlotSave (body : List Byte) (p : Part) : Answer :=
  match body with
  | [] => p.refuse .badLength
  | b :: label =>
    if 16 < label.length then p.refuse .badLength
    else
      match slotOf b with
      | none => p.refuse .badValue
      | some k =>
        if !label.all printable then p.refuse .badValue
        else if p.store.activity != .idle then p.refuse .busy
        else if (p.store.slot k).locked then p.refuse .locked
        else
          let c := p.snapshot
          let slot := { p.store.slot k with state := .writing, label := label, stored := none }
          let store := { p.store.setSlot k slot with activity := .saveErase k c 0 }
          ⟨p.setStore store, .accepted, [u8 k, u8 c.segs.length]⟩

/-- SLOT_ERASE (R187). -/
def reqSlotErase (body : List Byte) (p : Part) : Answer :=
  match body with
  | [b] =>
    match slotOf b with
    | none => p.refuse .badValue
    | some k =>
      if p.store.activity != .idle then p.refuse .busy
      else if (p.store.slot k).locked then p.refuse .locked
      else
        let slot := { p.store.slot k with state := .writing, label := [], stored := none }
        let store := { p.store.setSlot k slot with activity := .erase k 0 }
        ⟨p.setStore store, .accepted, [u8 k]⟩
  | _ => p.refuse .badLength

/-- The end of a save's erase phase, when it is due (R185). -/
def Part.savePhaseEnd (p : Part) : Part :=
  match p.store.activity with
  | .saveErase k c n =>
    if erasePeriods ≤ n
    then p.setStore { p.store with activity := .saveWrite k c (n - erasePeriods) } else p
  | _ => p

/-- The completion of a save, when it is due (R183, R185). -/
def Part.saveDone (p : Part) : Part :=
  match p.store.activity with
  | .saveWrite k c n =>
    if writePeriods c.segs.length ≤ n then
      let slot := { p.store.slot k with state := .valid, stored := some ⟨c, contentSum c⟩ }
      (p.setStore (p.store.endWork k slot)).raise (.store (some k) .saved)
    else p
  | _ => p

/-- The completion of an erase, when it is due (R187). -/
def Part.eraseDone (p : Part) : Part :=
  match p.store.activity with
  | .erase k n =>
    if erasePeriods ≤ n then
      let slot := { p.store.slot k with state := .empty, label := [], stored := none }
      (p.setStore (p.store.endWork k slot)).raise (.store (some k) .erased)
    else p
  | _ => p

/-- The work in flight counts a sample period (R185, R187). -/
def Activity.tick : Activity → Activity
  | .idle => .idle
  | .saveErase k c n => .saveErase k c (n + 1)
  | .saveWrite k c n => .saveWrite k c (n + 1)
  | .erase k n => .erase k (n + 1)

/-! ### Loading (R188) -/

/-- The loaded groups: saved settings and members, every group SETTLED on its HOME, the Watch
restarted for all twelve, and the followed rig set afresh (R86, R128, R155, R188). -/
def Part.loadGroups (p : Part) (groups : Vector GroupSettings 12) (members : Vector (Fin 12) 48) : Part :=
  let q := { p with groups := groups.map fun s => Group.settledOn s s.home, members := members }
  (q.restartRuns allGroups).syncFollowed

/-- The contents of a slot replace the running configuration, block by block; the generator takes its
settings before a change of the show rate (R154, R188; assumption log 39). -/
def Part.loadContents (p : Part) (c : ShowContents) : Part :=
  let q := ((p.applyTcSettings c.tc).storeShow c.show').setPreference c.preference
  ((q.loadGroups c.groups c.members).loadMap c.segs).judge

/-- The contents of a slot whose recomputed sum equals SUM (R183, R188). -/
def Slot.intact (s : Slot) : Option ShowContents :=
  match s.stored with
  | some w => if contentSum w.contents = w.sum then some w.contents else none
  | none => none

/-- A slot is found damaged: its STATE becomes DAMAGED (R188, R190). -/
def Part.damageSlot (p : Part) (k : Fin 8) : Part :=
  p.setStore (p.store.setSlot k { p.store.slot k with state := .damaged })

/-- SLOT_LOAD (R188). -/
def reqSlotLoad (body : List Byte) (p : Part) : Answer :=
  match body with
  | [b] =>
    match slotOf b with
    | none => p.refuse .badValue
    | some k =>
      if p.mode != .standby then p.refuse .wrongMode
      else if p.store.activity != .idle then p.refuse .busy
      else
        match (p.store.slot k).state with
        | .empty => p.refuse .notFound
        | .damaged | .writing => p.refuse .damaged
        | .valid =>
          match (p.store.slot k).intact with
          | none => (p.damageSlot k).refuse .damaged
          | some c =>
            let q := p.loadContents c
            ⟨q, .ok, [u8 k, u8 c.segs.length] ++ be16 q.map.generation⟩
  | _ => p.refuse .badLength

/-! ### Slot attributes (R189) -/

/-- Slot STATE code (R189). -/
def SlotState.code : SlotState → Byte
  | .empty => 0
  | .valid => 1
  | .damaged => 2
  | .writing => 3

/-- A slot's flags byte: bit 0 LOCKED, bit 1 boot slot (R189). -/
def Store.flagsByte (s : Store) (k : Fin 8) : Byte :=
  u8 (bit (s.slot k).locked + 2 * bit (s.boot == some k))

/-- The record count SLOT_INFO shows: the saved records of a VALID slot, the snapshot's of a save in
flight, else 0 (R189). -/
def Store.recordCount (s : Store) (k : Fin 8) : Nat :=
  match (s.slot k).state with
  | .valid =>
    match (s.slot k).stored with
    | some w => w.contents.segs.length
    | none => 0
  | .writing =>
    match s.activity with
    | .saveErase j c _ | .saveWrite j c _ => if j = k then c.segs.length else 0
    | .idle | .erase _ _ => 0
  | .empty | .damaged => 0

/-- SLOT_INFO (R189). -/
def reqSlotInfo (body : List Byte) (p : Part) : Answer :=
  match body with
  | [b] =>
    match slotOf b with
    | none => p.refuse .badValue
    | some k =>
      let s := p.store.slot k
      ⟨p, .ok, [u8 k, s.state.code, p.store.flagsByte k, u8 (p.store.recordCount k),
        u8 s.label.length] ++ s.label⟩
  | _ => p.refuse .badLength

/-- SLOT_LOCK (R189). -/
def reqSlotLock (body : List Byte) (p : Part) : Answer :=
  match body with
  | [b, v] =>
    match slotOf b, flagOf v with
    | some k, some on =>
      if (p.store.slot k).state = .writing then p.refuse .busy
      else
        let q := p.setStore (p.store.setSlot k { p.store.slot k with locked := on })
        ⟨q, .ok, [u8 k, q.store.flagsByte k]⟩
    | _, _ => p.refuse .badValue
  | _ => p.refuse .badLength

/-- SLOT_BOOT (R189). -/
def reqSlotBoot (body : List Byte) (p : Part) : Answer :=
  match body with
  | [b] =>
    if b = 0xFF then ⟨p.setStore { p.store with boot := none }, .ok, [0xFF]⟩
    else
      match slotOf b with
      | some k => ⟨p.setStore { p.store with boot := some k }, .ok, [b]⟩
      | none => p.refuse .badValue
  | _ => p.refuse .badLength

end Sys2Proof.Machine
end

