-- ==== Sys2Proof/Machine/StartUp.lean ====
section
/-! DEFINITION. Reset, power and start-up (R172, R183, R186, R190). -/

namespace Sys2Proof.Machine

/-- A slot as start-up finds it: WRITING becomes DAMAGED, its label kept (R190). -/
def Slot.found (s : Slot) : Slot :=
  if s.state = .writing then { s with state := .damaged, stored := none } else s

/-- Step 3 of start-up: the boot slot is loaded, or STORE says why not (R190). -/
def Part.boot (p : Part) : Part :=
  match p.store.boot with
  | none => p.raise (.store none .bootEmpty)
  | some k =>
    match (p.store.slot k).state with
    | .empty => p.raise (.store (some k) .bootEmpty)
    | .damaged | .writing => p.raise (.store (some k) .bootFailed)
    | .valid =>
      match (p.store.slot k).intact with
      | none => (p.damageSlot k).raise (.store (some k) .bootFailed)
      | some c => p.loadContents c

/-- Steps 1 and 2 of start-up: reset values with the straps just sampled, and the slots found WRITING
(R190). -/
def Part.resetValues (p : Part) (addr : BitVec 5) (rate : BitVec 2) (phase : Nat) : Part :=
  Part.afterReset addr rate phase p.panel.a.rawClosed p.panel.b.rawClosed
    p.panel.free.rawClosed { p.store with slots := p.store.slots.map Slot.found }

/-- Start-up, whole, with the first block beginning (R1, R190). -/
def Part.startUp (p : Part) (addr : BitVec 5) (rate : BitVec 2) : Part :=
  (p.resetValues addr rate 0).boot

/-- A part that is not at work: the slots and the directory are kept, and every other block stands
at its reset values with OUT_LANE and TC_OUT carrying nothing (R149, R156, R183, R186; assumption
log 31). -/
def Part.quiesce (p : Part) (powered resetHeld : Bool) : Part :=
  { Part.afterReset p.link.unitAddr p.link.rateStrap 0 p.panel.a.rawClosed p.panel.b.rawClosed
      p.panel.free.rawClosed p.store with
    powered := powered, resetHeld := resetHeld, outLane := none, tcOut := none }

/-- RESET_ASSERT (R149, R156, R172, R181, R186). -/
def Part.assertReset (p : Part) : Part := p.quiesce p.powered true

/-- RESET_RELEASE: start-up begins, if the part is powered (R190). -/
def Part.releaseReset (p : Part) (addr : BitVec 5) (rate : BitVec 2) : Part :=
  if p.resetHeld then
    if p.powered then p.startUp addr rate else { p with resetHeld := false }
  else p

/-- POWER_LOSS (R183, R186). -/
def Part.losePower (p : Part) : Part := p.quiesce false p.resetHeld

/-- POWER_UP: start-up begins, unless RESET is held (R190; assumption log 24). The first block begins at
the return of power: R1 fixes the phase of the block boundaries from the release of RESET alone (DESIGN
CHOICE, assumption log 24). -/
def Part.powerUp (p : Part) (addr : BitVec 5) (rate : BitVec 2) : Part :=
  if p.powered then p
  else if p.resetHeld then { p with powered := true }
  else p.startUp addr rate

/-- A RESTART is taken: every block at its reset values, and start-up. The block phase runs on, and so does
TC_OUT: a marker in progress is sent whole (R1, R156, R177, R190; assumption log 22). -/
def Part.takeRestart (p : Part) (addr : BitVec 5) (rate : BitVec 2) : Part :=
  let q := p.resetValues addr rate p.blockPhase
  Part.boot { q with
    handedOver := p.handedOver, tcOut := p.tcOut, tc := { q.tc with sending := p.tc.sending } }

end Sys2Proof.Machine
end

