-- ==== Sys2Proof/Machine/Period.lean ====
section
/-! DEFINITION. The core sample period: what falls due by the count of sample periods, and the work of
one period (R43, R142, R144, R147, R149, R156, R82). -/

namespace Sys2Proof.Machine

/-- The store's work that has come to its end (R185, R187). -/
def Part.settleStore (p : Part) : Part := ((p.savePhaseEnd).saveDone).eraseDone

/-- What fell due at the end of the last sample period and no command has taken: timeouts, restore
timers, slip ages, the store's work, the block completion with the contacts as last read, contacts and
the freewheel limit, in this order, but for the contacts that the command has come before the completion's
handover (R134; assumption log 9, 56). -/
def Part.settleDue (p : Part) (contactsFirst : List Contact) : Part :=
  let p := (p.markerTimeout .a).markerTimeout .b
  let p := (p.restoreComplete .a).restoreComplete .b
  let p := (p.clockFaultClear .a).clockFaultClear .b
  let p := (p.settleStore).blockCompletion contactsFirst
  let p := ((p.contactClosure .contactA).contactClosure .contactB).contactClosure .contactFree
  let p := ((p.contactOpening .contactA).contactOpening .contactB).contactOpening .contactFree
  p.freewheelLimit

/-- The counts of sample periods advance: slip ages, restore timers and the store's work (R27, R35,
R185; assumption log 36). -/
def Part.advanceCounts (p : Part) : Part :=
  { p with
    rigA := p.rigA.ageSlips, rigB := p.rigB.ageSlips, clock := p.clock.tick,
    store := { p.store with activity := p.store.activity.tick } }

/-- The sample period's work begins: the block counts the period, and each ramp's age is settled (R1, R141;
assumption log 10). -/
def Part.openPeriod (p : Part) (ofLast : Nat) : Part :=
  { p with early := true, blockPhase := bump 48 p.blockPhase }.modGroups
    (Group.modRamp (Ramp.enterPeriod ofLast))

/-- What the counts of this period have brought due and its command takes before the period's frames: the
store's end, where it comes before every entry into FADING of the period, and then the ends of CLOCK, which may
make one (R35, R186; assumption log 47). -/
def Part.countsFirst (p : Part) (o : Orders) : Part :=
  o.clears.foldl Part.clockFaultClear (if o.storeFirst then p.settleStore else p)

/-- Both rigs' frames are taken, rig `x`'s first, and the Watch reads the delayed samples (R31, R32, R39, R43,
R82). -/
def Part.takeSamples (p : Part) (x : Rig) : Part := ((p.takeRigFrame x).takeRigFrame (otherRig x)).raisePeaks

/-- The frames a period takes reach the assemblers, rig `x`'s first, once both are taken: a marker finds the
other rig's n with this sample period counted, so that markers of both rigs in one sample period measure the
same D (R7, R15, R39; assumption log 37). A block boundary or ramp advance of the period never comes between
the two markers (R87: DESIGN CHOICE, assumption log 57). -/
def Part.takeMarkers (p : Part) (o : Orders) (x : Rig) (frame : Rig → Frame) : Part :=
  let y := otherRig x
  (p.takeRigMarker (o.timeoutFirst x) x (frame x)).takeRigMarker (o.timeoutFirst y) y (frame y)

/-- The block boundary within the block's 48th sample period: the completion, with the contacts as last read,
and what the command takes of the closures and openings that it brings (R47, R135, R138; assumption log 47),
with nothing between them (DESIGN CHOICE, assumption log 57, 58). In any other period nothing of it is due. -/
def Part.boundary (p : Part) (o : Orders) : Part := (p.blockCompletion o.contactsFirst).takeContacts o.contacts

/-- The frames, markers, ramp advance and block boundary of a sample period, in the order that the command
gives (R15, R39, R46, R71, R87, R112, R147; assumption log 47). Good markers of both rigs in a block's 48th
period come both before its completion or both after it, though R87 lets each come on either side by itself
(DESIGN CHOICE, assumption log 57). -/
def Part.periodWork (p : Part) (o : Orders) : Part :=
  let x : Rig := if o.rigBFirst then .b else .a
  let frame := fun y => (p.rig y).nextFrame
  match o.boundary, o.advanceLast with
  | .last, false => ((p.advanceRamps).takeSamples x).takeMarkers o x frame
  | .last, true => ((p.takeSamples x).takeMarkers o x frame).advanceRamps
  | .first, false => (((p.takeSamples x).boundary o).advanceRamps).takeMarkers o x frame
  | .first, true => (((p.takeSamples x).boundary o).takeMarkers o x frame).advanceRamps
  | .between, false => (((p.advanceRamps).takeSamples x).boundary o).takeMarkers o x frame
  | .between, true => (((p.takeSamples x).takeMarkers o x frame).boundary o).advanceRamps

/-- OUT_LANE carries the frame of this sample period (R144, R149, R150). -/
def Part.formOutput (p : Part) : Part := { p with outLane := some p.outputSamples }

/-- What reads the delay lines, or the place in the show that they give out, reads them with the skew `s`; a
new skew is kept for the next block (R47; assumption log 55). -/
def Part.readWith (p : Part) (s : Int) (f : Part → Part) : Part :=
  let q := f { p with align := { p.align with s := s } }
  { q with align := { q.align with s := p.align.s } }

/-- The sample period is over: every ramp has begun in an earlier period. -/
def Part.closePeriod (p : Part) : Part := { p with early := false }.modGroups (Group.modRamp Ramp.leavePeriod)

/-- One core sample period (R43). What fell due in the last period and has not been commanded is settled
first, and the ramps it begins are of that last period (R141). Where the rules let what the period's counts
bring due (the end of CLOCK, of a save or erase, of a block with its closures) come before or after what its
frames, markers and ramps bring (a slip, a measurement, a change of a group's terms and so of its E, the end of
evidence, an entry into FADING, an advance), the operand says which (R35, R46, R87, R112, R135, R147, R148,
R186; assumption log 47). The output and the crossing test of a block's 48th period are read with the delays
of the block that it ends, wherever the boundary is taken (R47, R158; assumption log 55). -/
def Part.samplePeriod (p : Part) (o : Orders) : Part :=
  let p := ((p.ofLastPeriod fun p => p.settleDue o.contactsFirst).advanceCounts).openPeriod o.ofLast
  let q := (p.countsFirst o).periodWork o
  (q.readWith p.align.s fun q => (q.formOutput).tcPeriod).closePeriod

end Sys2Proof.Machine
end

