-- ==== Sys2Proof/Machine/LinkCtl.lean ====
section
/-! DEFINITION. The Link Controller: the receiver, the dispatch of requests by CODE, replies, and the
link's own requests (R166 to R181). -/

namespace Sys2Proof.Machine

/-! ### The link's own requests -/

/-- IDENTIFY (R175). -/
def reqIdentify (body : List Byte) (p : Part) : Answer :=
  match body with
  | [] => ⟨p, .ok, [0x48, 0x12, 1, u8 p.link.unitAddr.toNat, u8 p.link.rateStrap.toNat]⟩
  | _ => p.refuse .badLength

/-- The store's activity and its slot in STATUS (R176, R182). -/
def Activity.bytes : Activity → List Byte
  | .idle => [0, 0xFF]
  | .saveErase k _ _ => [1, u8 k]
  | .saveWrite k _ _ => [1, u8 k]
  | .erase k _ => [2, u8 k]

/-- The bitmap of pending kinds (R176, R182). -/
def Link.pendingBits (l : Link) : Byte :=
  u8 (byteSum (allKinds.map fun k => if l.notices[k].isSome then u8 (2 ^ k.val) else 0))

/-- D in four bytes, 0 when none (R182). -/
def offsetBytes : Option Int → List Byte
  | some d => signed32 d
  | none => [0, 0, 0, 0]

/-- The STATUS reply body (R176, R182). -/
def Part.statusBody (p : Part) : List Byte :=
  [p.mode.code, p.clock.current.code] ++ p.clock.preference.body ++ signed16 p.align.s ++
  offsetBytes p.align.d ++
  [u8 (bit p.align.d.isNone + 2 * bit p.align.stale + 4 * bit p.align.aligned),
    u8 p.rigA.faults.bitmap, u8 p.rigB.faults.bitmap,
    u8 (bit (p.tally .a) + 2 * bit (p.tally .b) + 4 * bit p.panel.a.closed +
      8 * bit p.panel.b.closed + 16 * bit p.panel.free.closed),
    u8 p.panel.a.closures, u8 p.panel.b.closures, u8 p.panel.free.closures] ++
  p.store.activity.bytes ++ [p.link.pendingBits, p.link.mask, u8 p.link.errors]

/-- STATUS (R176). -/
def reqStatus (body : List Byte) (p : Part) : Answer :=
  match body with
  | [] => ⟨p, .ok, p.statusBody⟩
  | _ => p.refuse .badLength

/-- RESTART's execution, which is its reply alone (R177). -/
def reqRestart (body : List Byte) (p : Part) : Answer :=
  match body with
  | [] => ⟨p, .ok, []⟩
  | _ => p.refuse .badLength

/-- The kind a NOTICE_READ without body returns (R179). -/
def Link.topKind (l : Link) : Option (Fin 8) :=
  allKinds.find? fun k => l.notices[k].isSome && !l.masked k

/-- The reply of a NOTICE_READ and the part after it: the kind, its count and detail, and its entry
clear (R179). -/
def Part.readNotice (p : Part) (kind : Option (Fin 8)) : Answer :=
  match kind with
  | none => ⟨p, .ok, [0, 0, 0, 0, 0, 0]⟩
  | some k =>
    match p.link.notices[k] with
    | none => ⟨p, .ok, [0, 0, 0, 0, 0, 0]⟩
    | some n =>
      ⟨{ p with link := { p.link with notices := p.link.notices.set k none } }, .ok,
        [u8 (k.val + 1), u8 n.count] ++ n.detail.bytes⟩

/-- NOTICE_READ (R179). -/
def reqNoticeRead (body : List Byte) (p : Part) : Answer :=
  match body with
  | [] => p.readNotice p.link.topKind
  | [b] =>
    if b = 0 then p.refuse .badValue
    else
      match slotOf (b - 1) with
      | some k => p.readNotice (some k)
      | none => p.refuse .badValue
  | _ => p.refuse .badLength

/-- NOTICE_MASK (R180). -/
def reqNoticeMask (body : List Byte) (p : Part) : Answer :=
  match body with
  | [] => ⟨p, .ok, [p.link.mask]⟩
  | [b] => ⟨{ p with link := { p.link with mask := b } }, .ok, [b]⟩
  | _ => p.refuse .badLength

/-! ### Dispatch (R171, R173) -/

/-- The block that owns the request a CODE names executes it; any other CODE is UNKNOWN (R171). -/
def Part.dispatch (p : Part) (code : Byte) (body : List Byte) : Answer :=
  if code = 0x01 then reqIdentify body p
  else if code = 0x02 then reqStatus body p
  else if code = 0x08 then reqNoticeRead body p
  else if code = 0x09 then reqNoticeMask body p
  else if code = 0x0F then reqRestart body p
  else if code = 0x30 then reqRigStatus body p
  else if code = 0x31 then reqRigClear body p
  else if code = 0x34 then reqClockSet body p
  else if code = 0x38 then reqShowSet body p
  else if code = 0x40 then reqSegInsert body p
  else if code = 0x41 then reqSegAmend body p
  else if code = 0x42 then reqSegRetire body p
  else if code = 0x43 then reqSegFind body p
  else if code = 0x44 then reqSegLocate body p
  else if code = 0x45 then reqMapClear body p
  else if code = 0x46 then reqCursorSet body p
  else if code = 0x47 then reqCursorNext body p
  else if code = 0x48 then reqMapStatus body p
  else if code = 0x50 then reqWatchStatus body p
  else if code = 0x58 then reqGroupSet body p
  else if code = 0x59 then reqGroupAssign body p
  else if code = 0x5A then reqGroupStatus body p
  else if code = 0x5B then reqGroupClear body p
  else if code = 0x5C then reqGroupHome body p
  else if code = 0x5D then reqGroupPin body p
  else if code = 0x5E then reqGroupUnpin body p
  else if code = 0x60 then reqModeSet body p
  else if code = 0x68 then reqTcSet body p
  else if code = 0x70 then reqSlotSave body p
  else if code = 0x71 then reqSlotErase body p
  else if code = 0x72 then reqSlotLoad body p
  else if code = 0x73 then reqSlotInfo body p
  else if code = 0x74 then reqSlotLock body p
  else if code = 0x75 then reqSlotBoot body p
  else p.refuse .unknown

/-- A request is executed, and the ramps it begins are those of one arrival (R141, R171). -/
def Part.handle (p : Part) (code : Byte) (body : List Byte) : Answer :=
  let a := p.dispatch code body
  { a with part := p.stampRamps a.part }

/-- Whether a CODE is honoured as a broadcast: MODE_SET, GROUP_PIN, GROUP_UNPIN, GROUP_HOME (R173). -/
def broadcastCode (code : Byte) : Bool := code == 0x60 || code == 0x5D || code == 0x5E || code == 0x5C

/-! ### The receiver (R167 to R173) -/

/-- The receiver takes a state. -/
def Part.setRx (p : Part) (r : Receiver) : Part := { p with link := { p.link with rx := r } }

/-- A reply is fixed, to be sent (R171, R172). -/
def Part.setReply (p : Part) (r : Option Reply) : Part := { p with link := { p.link with reply := r } }

/-- LINK_ERRORS rises by one (R169, R170, R171). -/
def Part.linkError (p : Part) : Part :=
  { p with link := { p.link with errors := bump 255 p.link.errors } }

/-- The reply of an answer to an addressed request (R171, R172, R177). -/
def Answer.reply (a : Answer) (code : Byte) : Reply :=
  ⟨code, a.result, a.body, false, code == 0x0F && a.result == .ok⟩

/-- A complete request whose check holds is taken: it leaves the receiver, and is executed (R168, R171,
R173). -/
def Part.takeRequest (p : Part) (via : Via) (code : Byte) (body : List Byte) : Part :=
  let p := p.setRx .idle
  match via with
  | .addressed =>
    let a := p.handle code body
    (a.part.setRx .replying).setReply (some (a.reply code))
  | .broadcast => ((if broadcastCode code then (p.handle code body).part else p)).setRx .idle

/-- A complete request whose check fails: LINK_ERRORS rises, and an addressed one is answered
BAD_CHECK (R171, R173). -/
def Part.badCheck (p : Part) (via : Via) (code : Byte) : Part :=
  match via with
  | .addressed => (p.linkError.setRx .replying).setReply (some ⟨code, .badCheck, [], false, false⟩)
  | .broadcast => p.linkError.setRx .idle

/-- A LEN outside 2 to 61: a discard, and DRAINING if addressed (R170). -/
def Part.badLen (p : Part) (via : Via) : Part :=
  match via with
  | .addressed => p.linkError.setRx .draining
  | .broadcast => p.linkError.setRx .idle

/-- A complete partial request, LEN to CHECK, is judged on its check (R168, R171, R173). -/
def Part.complete (p : Part) (via : Via) (chars : List Byte) : Part :=
  let code := chars.getD 1 0
  if byteSum chars % 256 = 0 then p.takeRequest via code ((chars.drop 2).dropLast)
  else p.badCheck via code

/-- What an address character means to a unit: a request to it, a broadcast, or neither (R166, R167). -/
def Link.addressed (l : Link) (value : Byte) : Option Via :=
  if value = 31 then some .broadcast
  else if !l.listenOnly && value == u8 l.unitAddr.toNat then some .addressed
  else none

/-- The receiver's state once an address character of a meaning has been taken (R167). -/
def rxAfter : Option Via → Receiver
  | some v => .collecting v []
  | none => .idle

/-- An address character of a meaning is taken by the receiver (R167). -/
def Part.openBy (p : Part) (meaning : Option Via) : Part :=
  match p.link.rx with
  | .idle => p.setRx (rxAfter meaning)
  | .collecting _ _ => p.linkError.setRx (rxAfter meaning)
  | .draining => (p.setReply none).setRx (rxAfter meaning)
  | .replying => p

/-- A character with a framing error: it discards a partial request in COLLECTING, and is passed over
or discarded elsewhere (R169, R172). -/
def Part.framingError (p : Part) : Part :=
  match p.link.rx with
  | .collecting _ _ => p.linkError.setRx .idle
  | .idle | .draining | .replying => p

/-- ADDRESS_CHARACTER (R166, R167, R169; assumption log 23). -/
def Part.addressCharacter (p : Part) (value : Byte) (stopOk : Bool) : Part :=
  if !stopOk then p.framingError
  else if 31 < value.toNat then p
  else p.openBy (p.link.addressed value)

/-- DATA_CHARACTER (R168, R169, R170). -/
def Part.dataCharacter (p : Part) (value : Byte) (stopOk : Bool) : Part :=
  if !stopOk then p.framingError
  else
    match p.link.rx with
    | .collecting via [] =>
      if value.toNat < 2 || 61 < value.toNat then p.badLen via else p.setRx (.collecting via [value])
    | .collecting via (len :: rest) =>
      let chars := len :: (rest ++ [value])
      if len.toNat ≤ rest.length + 1 then p.complete via chars else p.setRx (.collecting via chars)
    | .idle | .draining | .replying => p

/-- CHARACTER_GAP (R169). -/
def Part.characterGap (p : Part) : Part := p.framingError

/-- DRAIN_QUIET: a BAD_LENGTH reply with CODE 0x00 is to be sent (R170). -/
def Part.drainQuiet (p : Part) : Part :=
  match p.link.rx, p.link.reply with
  | .draining, none => p.setReply (some ⟨0, .badLength, [], false, false⟩)
  | _, _ => p

/-- REPLY_START: the part begins to drive the link with its reply (R170, R172). -/
def Part.replyStart (p : Part) : Part :=
  match p.link.reply with
  | some r => if r.started then p else (p.setReply (some { r with started := true })).setRx .replying
  | none => p

/-- REPLY_END: the link is released, the receiver is IDLE, and a RESTART is taken (R172, R177). -/
def Part.replyEnd (p : Part) (addr : BitVec 5) (rate : BitVec 2) : Part :=
  match p.link.reply with
  | some r =>
    if r.started then
      let q := (p.setReply none).setRx .idle
      if r.restarts then q.takeRestart addr rate else q
    else p
  | none => p

/-- A request row: a whole request frame whose check holds reaches the receiver (R167, R168, R170;
assumption log 6). One to an address that is not this unit's own, or one that meets a reply, has no
effect. -/
def Part.deliver (p : Part) (via : Via) (code : Byte) (body : List Byte) : Part :=
  if p.link.rx = .replying then p
  else if via = .addressed ∧ p.link.listenOnly then p
  else
    let q := p.openBy (some via)
    if 59 < body.length then q.badLen via else q.takeRequest via code body

end Sys2Proof.Machine
end

