-- ==== Sys2Proof/Machine/CmdPower.lean ====
section
/-! DEFINITION. How a command becomes a step, and the meanings of the reset and power commands. -/

namespace Sys2Proof.Machine

/-- A command that acts on a part at work; one that is unpowered or held in RESET takes none
(assumption log 7). -/
def State.act (s : State) (f : Part → Part) : Host.Outcome State Fault Refusal :=
  .next { s with part := if s.part.atWork then f s.part else s.part }

/-- A change of the RESET pin or of power, which the part takes in every condition. -/
def State.actAlways (s : State) (f : Part → Part) : Host.Outcome State Fault Refusal :=
  .next { s with part := f s.part }

/-- RESET_ASSERT (R149, R156, R172, R181, R186). -/
def execResetAssert (s : State) : Host.Outcome State Fault Refusal := s.actAlways Part.assertReset

/-- RESET_RELEASE (R190). -/
def execResetRelease (addr : BitVec 5) (rate : BitVec 2) (s : State) : Host.Outcome State Fault Refusal :=
  s.actAlways fun p => p.releaseReset addr rate

/-- POWER_LOSS (R183). -/
def execPowerLoss (s : State) : Host.Outcome State Fault Refusal := s.actAlways Part.losePower

/-- POWER_UP (R190). -/
def execPowerUp (addr : BitVec 5) (rate : BitVec 2) (s : State) : Host.Outcome State Fault Refusal :=
  s.actAlways fun p => p.powerUp addr rate

end Sys2Proof.Machine
end

