-- ==== Sys2Proof/Machine/CmdEvents.lean ====
section
/-! DEFINITION. The meanings of the commands that come from the clock, the lanes and the panel, and of
those that fall due in time. Each of the latter has no effect where it is not due (assumption log 8). -/

namespace Sys2Proof.Machine

/-- CORE_SAMPLE_PERIOD (R43). -/
def execCoreSamplePeriod (o : Orders) (s : State) : Host.Outcome State Fault Refusal :=
  s.act fun p => p.samplePeriod o

/-- LANE_FRAME (R2, R3). -/
def execLaneFrame (x : Rig) (delimited : Bool) (bytes : List Byte) (s : State) :
    Host.Outcome State Fault Refusal :=
  s.act fun p => p.stampRamps (p.receiveFrame x (judgeLaneFrame delimited bytes))

/-- MISSING_FRAME (R2): one malformed frame. -/
def execMissingFrame (x : Rig) (s : State) : Host.Outcome State Fault Refusal :=
  s.act fun p => p.stampRamps (p.receiveFrame x none)

/-- MARKER_TIMEOUT (R15). -/
def execMarkerTimeout (x : Rig) (s : State) : Host.Outcome State Fault Refusal :=
  s.act fun p => p.ofLastPeriod fun p => p.markerTimeout x

/-- RESTORE_TIMER_COMPLETE (R28). -/
def execRestoreTimerComplete (x : Rig) (s : State) : Host.Outcome State Fault Refusal :=
  s.act fun p => p.restoreComplete x

/-- CLOCK_FAULT_CLEAR (R35). -/
def execClockFaultClear (x : Rig) (s : State) : Host.Outcome State Fault Refusal :=
  s.act fun p => p.ofLastPeriod fun p => p.clockFaultClear x

/-- The contacts' raw levels as a block completion reads them (R135; assumption log 34). -/
def Part.setContacts (p : Part) (a b free : Bool) : Part := { p with panel := p.panel.setRaw a b free }

/-- BLOCK_COMPLETION (R47, R82, R90, R91, R111, R120, R135). -/
def execBlockCompletion (closedA closedB closedFree : Bool) (s : State) :
    Host.Outcome State Fault Refusal :=
  s.act fun p => (p.setContacts closedA closedB closedFree).ofLastPeriod fun p => p.blockCompletion []

/-- HOLD_OFF_EXPIRY (R111, R113). -/
def execHoldOffExpiry (s : State) : Host.Outcome State Fault Refusal :=
  s.act fun p => p.ofLastPeriod Part.expireHoldOffs

/-- LANDING (R116, R142). -/
def execLanding (g : Fin 12) (s : State) : Host.Outcome State Fault Refusal := s.act fun p => p.landing g

/-- RETURN_TIMER_EXPIRY (R120, R121). -/
def execReturnTimerExpiry (s : State) : Host.Outcome State Fault Refusal :=
  s.act fun p => p.ofLastPeriod Part.expireReturns

/-- CONTACT_CLOSURE (R135, R136, R137). -/
def execContactClosure (c : Contact) (s : State) : Host.Outcome State Fault Refusal :=
  s.act fun p => p.ofLastPeriod fun p => p.contactClosure c

/-- CONTACT_OPENING (R135). -/
def execContactOpening (c : Contact) (s : State) : Host.Outcome State Fault Refusal :=
  s.act fun p => p.contactOpening c

/-- TC_CADENCE_MARKER (R157, R161). -/
def execTcCadenceMarker (s : State) : Host.Outcome State Fault Refusal := s.act Part.cadenceMarker

/-- FREEWHEEL_LIMIT_REACHED (R162). -/
def execFreewheelLimitReached (s : State) : Host.Outcome State Fault Refusal := s.act Part.freewheelLimit

/-- SAVE_ERASE_PHASE_END (R185). -/
def execSaveErasePhaseEnd (s : State) : Host.Outcome State Fault Refusal := s.act Part.savePhaseEnd

/-- SAVE_COMPLETION (R185). -/
def execSaveCompletion (s : State) : Host.Outcome State Fault Refusal := s.act Part.saveDone

/-- ERASE_COMPLETION (R187). -/
def execEraseCompletion (s : State) : Host.Outcome State Fault Refusal := s.act Part.eraseDone

/-- ADDRESS_CHARACTER (R167). -/
def execAddressCharacter (value : Byte) (stopOk : Bool) (s : State) : Host.Outcome State Fault Refusal :=
  s.act fun p => p.addressCharacter value stopOk

/-- DATA_CHARACTER (R168). -/
def execDataCharacter (value : Byte) (stopOk : Bool) (s : State) : Host.Outcome State Fault Refusal :=
  s.act fun p => p.dataCharacter value stopOk

/-- CHARACTER_GAP (R169). -/
def execCharacterGap (s : State) : Host.Outcome State Fault Refusal := s.act Part.characterGap

/-- DRAIN_QUIET (R170). -/
def execDrainQuiet (s : State) : Host.Outcome State Fault Refusal := s.act Part.drainQuiet

/-- REPLY_START (R172). -/
def execReplyStart (s : State) : Host.Outcome State Fault Refusal := s.act Part.replyStart

/-- REPLY_END (R172, R177). -/
def execReplyEnd (addr : BitVec 5) (rate : BitVec 2) (s : State) : Host.Outcome State Fault Refusal :=
  s.act fun p => p.replyEnd addr rate

end Sys2Proof.Machine
end

