-- ==== Sys2Proof/Machine/CmdRequests.lean ====
section
/-! DEFINITION. The meanings of the request commands: each is its whole frame at the receiver, handed by
its CODE to the owning block (R168, R171; assumption log 6). -/

namespace Sys2Proof.Machine

/-- RIG_STATUS (R22). -/
def execRigStatus (v : Via) (body : List Byte) (s : State) : Host.Outcome State Fault Refusal :=
  s.act fun p => p.deliver v 0x30 body

/-- RIG_CLEAR (R23). -/
def execRigClear (v : Via) (body : List Byte) (s : State) : Host.Outcome State Fault Refusal :=
  s.act fun p => p.deliver v 0x31 body

/-- CLOCK_SET (R29). -/
def execClockSet (v : Via) (body : List Byte) (s : State) : Host.Outcome State Fault Refusal :=
  s.act fun p => p.deliver v 0x34 body

/-- SHOW_SET (R37). -/
def execShowSet (v : Via) (body : List Byte) (s : State) : Host.Outcome State Fault Refusal :=
  s.act fun p => p.deliver v 0x38 body

/-- SEG_INSERT (R65). -/
def execSegInsert (v : Via) (body : List Byte) (s : State) : Host.Outcome State Fault Refusal :=
  s.act fun p => p.deliver v 0x40 body

/-- SEG_AMEND (R67). -/
def execSegAmend (v : Via) (body : List Byte) (s : State) : Host.Outcome State Fault Refusal :=
  s.act fun p => p.deliver v 0x41 body

/-- SEG_RETIRE (R69). -/
def execSegRetire (v : Via) (body : List Byte) (s : State) : Host.Outcome State Fault Refusal :=
  s.act fun p => p.deliver v 0x42 body

/-- SEG_FIND (R73). -/
def execSegFind (v : Via) (body : List Byte) (s : State) : Host.Outcome State Fault Refusal :=
  s.act fun p => p.deliver v 0x43 body

/-- SEG_LOCATE (R74). -/
def execSegLocate (v : Via) (body : List Byte) (s : State) : Host.Outcome State Fault Refusal :=
  s.act fun p => p.deliver v 0x44 body

/-- MAP_STATUS (R75). -/
def execMapStatus (v : Via) (body : List Byte) (s : State) : Host.Outcome State Fault Refusal :=
  s.act fun p => p.deliver v 0x48 body

/-- MAP_CLEAR (R76). -/
def execMapClear (v : Via) (body : List Byte) (s : State) : Host.Outcome State Fault Refusal :=
  s.act fun p => p.deliver v 0x45 body

/-- CURSOR_SET (R79). -/
def execCursorSet (v : Via) (body : List Byte) (s : State) : Host.Outcome State Fault Refusal :=
  s.act fun p => p.deliver v 0x46 body

/-- CURSOR_NEXT (R80). -/
def execCursorNext (v : Via) (body : List Byte) (s : State) : Host.Outcome State Fault Refusal :=
  s.act fun p => p.deliver v 0x47 body

/-- WATCH_STATUS (R94). -/
def execWatchStatus (v : Via) (body : List Byte) (s : State) : Host.Outcome State Fault Refusal :=
  s.act fun p => p.deliver v 0x50 body

/-- GROUP_SET (R97). -/
def execGroupSet (v : Via) (body : List Byte) (s : State) : Host.Outcome State Fault Refusal :=
  s.act fun p => p.deliver v 0x58 body

/-- GROUP_ASSIGN (R100). -/
def execGroupAssign (v : Via) (body : List Byte) (s : State) : Host.Outcome State Fault Refusal :=
  s.act fun p => p.deliver v 0x59 body

/-- MODE_SET (R102). -/
def execModeSet (v : Via) (body : List Byte) (s : State) : Host.Outcome State Fault Refusal :=
  s.act fun p => p.deliver v 0x60 body

/-- GROUP_HOME (R122). -/
def execGroupHome (v : Via) (body : List Byte) (s : State) : Host.Outcome State Fault Refusal :=
  s.act fun p => p.deliver v 0x5C body

/-- GROUP_STATUS (R124). -/
def execGroupStatus (v : Via) (body : List Byte) (s : State) : Host.Outcome State Fault Refusal :=
  s.act fun p => p.deliver v 0x5A body

/-- GROUP_CLEAR (R125). -/
def execGroupClear (v : Via) (body : List Byte) (s : State) : Host.Outcome State Fault Refusal :=
  s.act fun p => p.deliver v 0x5B body

/-- GROUP_PIN (R129). -/
def execGroupPin (v : Via) (body : List Byte) (s : State) : Host.Outcome State Fault Refusal :=
  s.act fun p => p.deliver v 0x5D body

/-- GROUP_UNPIN (R133). -/
def execGroupUnpin (v : Via) (body : List Byte) (s : State) : Host.Outcome State Fault Refusal :=
  s.act fun p => p.deliver v 0x5E body

/-- TC_SET (R153). -/
def execTcSet (v : Via) (body : List Byte) (s : State) : Host.Outcome State Fault Refusal :=
  s.act fun p => p.deliver v 0x68 body

/-- IDENTIFY (R175). -/
def execIdentify (v : Via) (body : List Byte) (s : State) : Host.Outcome State Fault Refusal :=
  s.act fun p => p.deliver v 0x01 body

/-- STATUS (R176). -/
def execStatus (v : Via) (body : List Byte) (s : State) : Host.Outcome State Fault Refusal :=
  s.act fun p => p.deliver v 0x02 body

/-- RESTART (R177). -/
def execRestart (v : Via) (body : List Byte) (s : State) : Host.Outcome State Fault Refusal :=
  s.act fun p => p.deliver v 0x0F body

/-- NOTICE_READ (R179). -/
def execNoticeRead (v : Via) (body : List Byte) (s : State) : Host.Outcome State Fault Refusal :=
  s.act fun p => p.deliver v 0x08 body

/-- NOTICE_MASK (R180). -/
def execNoticeMask (v : Via) (body : List Byte) (s : State) : Host.Outcome State Fault Refusal :=
  s.act fun p => p.deliver v 0x09 body

/-- SLOT_SAVE (R184). -/
def execSlotSave (v : Via) (body : List Byte) (s : State) : Host.Outcome State Fault Refusal :=
  s.act fun p => p.deliver v 0x70 body

/-- SLOT_ERASE (R187). -/
def execSlotErase (v : Via) (body : List Byte) (s : State) : Host.Outcome State Fault Refusal :=
  s.act fun p => p.deliver v 0x71 body

/-- SLOT_LOAD (R188). -/
def execSlotLoad (v : Via) (body : List Byte) (s : State) : Host.Outcome State Fault Refusal :=
  s.act fun p => p.deliver v 0x72 body

/-- SLOT_INFO (R189). -/
def execSlotInfo (v : Via) (body : List Byte) (s : State) : Host.Outcome State Fault Refusal :=
  s.act fun p => p.deliver v 0x73 body

/-- SLOT_LOCK (R189). -/
def execSlotLock (v : Via) (body : List Byte) (s : State) : Host.Outcome State Fault Refusal :=
  s.act fun p => p.deliver v 0x74 body

/-- SLOT_BOOT (R189). -/
def execSlotBoot (v : Via) (body : List Byte) (s : State) : Host.Outcome State Fault Refusal :=
  s.act fun p => p.deliver v 0x75 body

end Sys2Proof.Machine
end

