-- ==== Sys2Proof/Machine/Dispatch.lean ====
section
/-! DEFINITION. The meaning of every command, one arm per row of the opcode table. -/

namespace Sys2Proof.Machine

def exec (i : Instr) (s : State) : Host.Outcome State Fault Refusal :=
  match i with
  | .resetAssert => Sys2Proof.Machine.execResetAssert s
  | .resetRelease addr rate => Sys2Proof.Machine.execResetRelease addr rate s
  | .powerLoss => Sys2Proof.Machine.execPowerLoss s
  | .coreSamplePeriod o => Sys2Proof.Machine.execCoreSamplePeriod o s
  | .laneFrame x delimited bytes => Sys2Proof.Machine.execLaneFrame x delimited bytes s
  | .missingFrame x => Sys2Proof.Machine.execMissingFrame x s
  | .markerTimeout x => Sys2Proof.Machine.execMarkerTimeout x s
  | .rigStatus v body => Sys2Proof.Machine.execRigStatus v body s
  | .rigClear v body => Sys2Proof.Machine.execRigClear v body s
  | .restoreTimerComplete x => Sys2Proof.Machine.execRestoreTimerComplete x s
  | .clockSet v body => Sys2Proof.Machine.execClockSet v body s
  | .clockFaultClear x => Sys2Proof.Machine.execClockFaultClear x s
  | .showSet v body => Sys2Proof.Machine.execShowSet v body s
  | .blockCompletion closedA closedB closedFree => Sys2Proof.Machine.execBlockCompletion closedA closedB closedFree s
  | .segInsert v body => Sys2Proof.Machine.execSegInsert v body s
  | .segAmend v body => Sys2Proof.Machine.execSegAmend v body s
  | .segRetire v body => Sys2Proof.Machine.execSegRetire v body s
  | .segFind v body => Sys2Proof.Machine.execSegFind v body s
  | .segLocate v body => Sys2Proof.Machine.execSegLocate v body s
  | .mapStatus v body => Sys2Proof.Machine.execMapStatus v body s
  | .mapClear v body => Sys2Proof.Machine.execMapClear v body s
  | .cursorSet v body => Sys2Proof.Machine.execCursorSet v body s
  | .cursorNext v body => Sys2Proof.Machine.execCursorNext v body s
  | .watchStatus v body => Sys2Proof.Machine.execWatchStatus v body s
  | .groupSet v body => Sys2Proof.Machine.execGroupSet v body s
  | .groupAssign v body => Sys2Proof.Machine.execGroupAssign v body s
  | .modeSet v body => Sys2Proof.Machine.execModeSet v body s
  | .holdOffExpiry => Sys2Proof.Machine.execHoldOffExpiry s
  | .landing g => Sys2Proof.Machine.execLanding g s
  | .returnTimerExpiry => Sys2Proof.Machine.execReturnTimerExpiry s
  | .groupHome v body => Sys2Proof.Machine.execGroupHome v body s
  | .groupStatus v body => Sys2Proof.Machine.execGroupStatus v body s
  | .groupClear v body => Sys2Proof.Machine.execGroupClear v body s
  | .groupPin v body => Sys2Proof.Machine.execGroupPin v body s
  | .groupUnpin v body => Sys2Proof.Machine.execGroupUnpin v body s
  | .contactClosure c => Sys2Proof.Machine.execContactClosure c s
  | .contactOpening c => Sys2Proof.Machine.execContactOpening c s
  | .tcSet v body => Sys2Proof.Machine.execTcSet v body s
  | .tcCadenceMarker => Sys2Proof.Machine.execTcCadenceMarker s
  | .freewheelLimitReached => Sys2Proof.Machine.execFreewheelLimitReached s
  | .addressCharacter value stopOk => Sys2Proof.Machine.execAddressCharacter value stopOk s
  | .dataCharacter value stopOk => Sys2Proof.Machine.execDataCharacter value stopOk s
  | .characterGap => Sys2Proof.Machine.execCharacterGap s
  | .drainQuiet => Sys2Proof.Machine.execDrainQuiet s
  | .replyStart => Sys2Proof.Machine.execReplyStart s
  | .replyEnd addr rate => Sys2Proof.Machine.execReplyEnd addr rate s
  | .identify v body => Sys2Proof.Machine.execIdentify v body s
  | .status v body => Sys2Proof.Machine.execStatus v body s
  | .restart v body => Sys2Proof.Machine.execRestart v body s
  | .noticeRead v body => Sys2Proof.Machine.execNoticeRead v body s
  | .noticeMask v body => Sys2Proof.Machine.execNoticeMask v body s
  | .slotSave v body => Sys2Proof.Machine.execSlotSave v body s
  | .saveErasePhaseEnd => Sys2Proof.Machine.execSaveErasePhaseEnd s
  | .saveCompletion => Sys2Proof.Machine.execSaveCompletion s
  | .slotErase v body => Sys2Proof.Machine.execSlotErase v body s
  | .eraseCompletion => Sys2Proof.Machine.execEraseCompletion s
  | .slotLoad v body => Sys2Proof.Machine.execSlotLoad v body s
  | .slotInfo v body => Sys2Proof.Machine.execSlotInfo v body s
  | .slotLock v body => Sys2Proof.Machine.execSlotLock v body s
  | .slotBoot v body => Sys2Proof.Machine.execSlotBoot v body s
  | .powerUp addr rate => Sys2Proof.Machine.execPowerUp addr rate s

end Sys2Proof.Machine
end

