-- ==== Sys2Proof/WellFormed.lean ====
section
/-! DEFINITION. Which commands can arrive: a request body that fits a command link frame. -/

namespace Sys2Proof

/-- The longest request body: a LEN of 2 to 61 leaves a body of 0 to 59 characters (R168). -/
def maxRequestBody : Nat := 59

/-- The request body a command carries, if it is a request row. -/
def Instr.requestBody : Instr → Option (List Byte)
  | .rigStatus _ b | .rigClear _ b | .clockSet _ b | .showSet _ b => some b
  | .segInsert _ b | .segAmend _ b | .segRetire _ b | .segFind _ b => some b
  | .segLocate _ b | .mapStatus _ b | .mapClear _ b | .cursorSet _ b => some b
  | .cursorNext _ b | .watchStatus _ b | .groupSet _ b | .groupAssign _ b => some b
  | .modeSet _ b | .groupHome _ b | .groupStatus _ b | .groupClear _ b => some b
  | .groupPin _ b | .groupUnpin _ b | .tcSet _ b | .identify _ b => some b
  | .status _ b | .restart _ b | .noticeRead _ b | .noticeMask _ b => some b
  | .slotSave _ b | .slotErase _ b | .slotLoad _ b | .slotInfo _ b => some b
  | .slotLock _ b | .slotBoot _ b => some b
  | .resetAssert | .resetRelease _ _ | .powerLoss | .coreSamplePeriod _ => none
  | .laneFrame _ _ _ | .missingFrame _ | .markerTimeout _ => none
  | .restoreTimerComplete _ | .clockFaultClear _ | .blockCompletion _ _ _ => none
  | .holdOffExpiry | .landing _ | .returnTimerExpiry => none
  | .contactClosure _ | .contactOpening _ | .tcCadenceMarker => none
  | .freewheelLimitReached | .addressCharacter _ _ | .dataCharacter _ _ => none
  | .characterGap | .drainQuiet | .replyStart | .replyEnd _ _ => none
  | .saveErasePhaseEnd | .saveCompletion | .eraseCompletion | .powerUp _ _ => none

/-- A command is well formed when its request body, if it has one, fits a request frame (R168). -/
def Instr.wellFormed (i : Instr) : Bool :=
  match i.requestBody with
  | some b => b.length ≤ maxRequestBody
  | none => true

end Sys2Proof
end

