-- ==== Sys2Proof/Safety.lean ====
section
/-! DEFINITION. What counts as a safe run, and the words the statements are made of: a unit that hears a
request, the answer it gives, the configuration, and the conditions that every step keeps. -/

namespace Sys2Proof

/-! ### Commands -/

/-- The CODE, the collection kind and the body of a request command. -/
def Instr.request : Instr → Option (Byte × Via × List Byte)
  | .rigStatus v b => some (0x30, v, b)
  | .rigClear v b => some (0x31, v, b)
  | .clockSet v b => some (0x34, v, b)
  | .showSet v b => some (0x38, v, b)
  | .segInsert v b => some (0x40, v, b)
  | .segAmend v b => some (0x41, v, b)
  | .segRetire v b => some (0x42, v, b)
  | .segFind v b => some (0x43, v, b)
  | .segLocate v b => some (0x44, v, b)
  | .mapStatus v b => some (0x48, v, b)
  | .mapClear v b => some (0x45, v, b)
  | .cursorSet v b => some (0x46, v, b)
  | .cursorNext v b => some (0x47, v, b)
  | .watchStatus v b => some (0x50, v, b)
  | .groupSet v b => some (0x58, v, b)
  | .groupAssign v b => some (0x59, v, b)
  | .modeSet v b => some (0x60, v, b)
  | .groupHome v b => some (0x5C, v, b)
  | .groupStatus v b => some (0x5A, v, b)
  | .groupClear v b => some (0x5B, v, b)
  | .groupPin v b => some (0x5D, v, b)
  | .groupUnpin v b => some (0x5E, v, b)
  | .tcSet v b => some (0x68, v, b)
  | .identify v b => some (0x01, v, b)
  | .status v b => some (0x02, v, b)
  | .restart v b => some (0x0F, v, b)
  | .noticeRead v b => some (0x08, v, b)
  | .noticeMask v b => some (0x09, v, b)
  | .slotSave v b => some (0x70, v, b)
  | .slotErase v b => some (0x71, v, b)
  | .slotLoad v b => some (0x72, v, b)
  | .slotInfo v b => some (0x73, v, b)
  | .slotLock v b => some (0x74, v, b)
  | .slotBoot v b => some (0x75, v, b)
  | .resetAssert | .resetRelease _ _ | .powerLoss | .coreSamplePeriod _ | .laneFrame _ _ _
  | .missingFrame _ | .markerTimeout _ | .restoreTimerComplete _ | .clockFaultClear _
  | .blockCompletion _ _ _ | .holdOffExpiry | .landing _ | .returnTimerExpiry
  | .contactClosure _ | .contactOpening _ | .tcCadenceMarker | .freewheelLimitReached
  | .addressCharacter _ _ | .dataCharacter _ _ | .characterGap | .drainQuiet | .replyStart
  | .replyEnd _ _ | .saveErasePhaseEnd | .saveCompletion | .eraseCompletion | .powerUp _ _ => none

/-- Commands that are no request and no character of one, and neither reset, power nor a reply's end. -/
def Instr.isEvent : Instr → Bool
  | .coreSamplePeriod _ | .laneFrame _ _ _ | .missingFrame _ | .markerTimeout _ => true
  | .restoreTimerComplete _ | .clockFaultClear _ | .blockCompletion _ _ _ | .holdOffExpiry => true
  | .landing _ | .returnTimerExpiry | .contactClosure _ | .contactOpening _ => true
  | .tcCadenceMarker | .freewheelLimitReached => true
  | .saveErasePhaseEnd | .saveCompletion | .eraseCompletion => true
  | .resetAssert | .resetRelease _ _ | .powerLoss | .powerUp _ _ | .replyEnd _ _ => false
  | .addressCharacter _ _ | .dataCharacter _ _ | .characterGap | .drainQuiet | .replyStart => false
  | .rigStatus _ _ => false
  | .rigClear _ _ => false
  | .clockSet _ _ => false
  | .showSet _ _ => false
  | .segInsert _ _ => false
  | .segAmend _ _ => false
  | .segRetire _ _ => false
  | .segFind _ _ => false
  | .segLocate _ _ => false
  | .mapStatus _ _ => false
  | .mapClear _ _ => false
  | .cursorSet _ _ => false
  | .cursorNext _ _ => false
  | .watchStatus _ _ => false
  | .groupSet _ _ => false
  | .groupAssign _ _ => false
  | .modeSet _ _ => false
  | .groupHome _ _ => false
  | .groupStatus _ _ => false
  | .groupClear _ _ => false
  | .groupPin _ _ => false
  | .groupUnpin _ _ => false
  | .tcSet _ _ => false
  | .identify _ _ => false
  | .status _ _ => false
  | .restart _ _ => false
  | .noticeRead _ _ => false
  | .noticeMask _ _ => false
  | .slotSave _ _ => false
  | .slotErase _ _ => false
  | .slotLoad _ _ => false
  | .slotInfo _ _ => false
  | .slotLock _ _ => false
  | .slotBoot _ _ => false

/-! ### Orders -/

/-- The closures and openings that a boundary within a sample period takes with it (R134, R147). -/
abbrev Orders.contactsTaken (o : Orders) : List Contact := o.contactsFirst ++ o.contacts

end Sys2Proof

namespace Sys2Proof.Machine

/-! ### Runs -/

/-- A state from which `n` steps answer a next state each. -/
def State.SafeFor : Nat → State → Prop
  | 0, _ => True
  | n + 1, s => ∃ t, step s = .next t ∧ State.SafeFor n t

/-! ### Requests and answers -/

/-- A unit that takes the next request addressed to it: at work, its receiver IDLE, not listen-only
(R166, R167). -/
def State.hears (s : State) : Prop :=
  s.part.atWork = true ∧ s.part.link.rx = .idle ∧ s.part.link.listenOnly = false

/-- The state with the part `q` and the reply to an addressed request fixed (R168, R171). -/
def State.answered (s : State) (q : Part) (code : Byte) (r : Result) (body : List Byte) : State :=
  { s with part := { q with link := { q.link with
      rx := .replying, reply := some ⟨code, r, body, false, code == 0x0F && r == .ok⟩ } } }

/-- A refusal: nothing but the reply, whose body is empty (R174). -/
def State.refused (s : State) (code : Byte) (r : Result) : State := s.answered s.part code r []

/-- The commands of a list taken one after another. -/
def State.taking : List Instr → State → Host.Outcome State Fault Refusal
  | [], s => .next s
  | c :: cs, s =>
    match exec c s with
    | .next t => State.taking cs t
    | .fault f => .fault f
    | .refused r => .refused r

/-- The characters of a request frame: an address character, LEN, CODE, the body and CHECK (R168,
R182). -/
def frameCharacters (address code : Byte) (body : List Byte) : List Instr :=
  let cs := u8 (body.length + 2) :: code :: body
  .addressCharacter address true :: (cs ++ [checkFor cs]).map fun c => .dataCharacter c true

/-- The address a host opens a request with: the unit's own, or 31 (R166). -/
def Link.addressOf (l : Link) : Via → Byte
  | .addressed => u8 l.unitAddr.toNat
  | .broadcast => 31

/-- The rows that take closures and openings, where they are due. -/
def contactRows (cs : List Contact) : List Instr := cs.flatMap fun c => [.contactClosure c, .contactOpening c]

/-! ### Lane frames -/

/-- The frame that the bytes after a delimiter carry: 48 samples of three bytes each, and the side byte
(R182). -/
def frameCarried (bytes : List Byte) : Frame :=
  ⟨allChannels.map fun c =>
      BitVec.ofNat 24 (num3 (bytes.getD (3 * c) 0) (bytes.getD (3 * c + 1) 0) (bytes.getD (3 * c + 2) 0)),
    bytes.getD 144 0, false⟩

/-- The frame that stands for a malformed or missing one (R4). -/
def substituteCarried : Frame := ⟨List.replicate 48 0, 0, true⟩

/-- What the arrival of a frame at the lane buffer of a LOCKED lane makes of the port `r`, the deltas and
the receiver's run of malformed frames apart (R31, R32, R34, R35; what a drop does to n while the run
state is UNKNOWN is assumption log 17). -/
def RigPort.Takes (rate : Rate) (f : Frame) (r t : RigPort) : Prop :=
  (r.bufState = .filling →
    t.frames = r.frames ++ [f] ∧ t.bufState = (if r.frames.length < 7 then .filling else .running) ∧
    t.slips = r.slips ∧ t.faults = r.faults ∧ t.n = r.n ∧ t.asm = r.asm) ∧
  (r.bufState = .running → r.frames.length < 16 →
    t.frames = r.frames ++ [f] ∧ t.bufState = .running ∧
    t.slips = r.slips ∧ t.faults = r.faults ∧ t.n = r.n ∧ t.asm = r.asm) ∧
  (r.bufState = .running → r.frames.length = 16 →
    let late := r.run = some .playing ∧ 3 * rate.spf + 7 ≤ min 65535 (r.n + 8)
    t.frames = r.frames.drop 8 ++ [f] ∧ t.bufState = .running ∧ t.slips = min 255 (r.slips + 1) ∧
    t.slipNewer = some 0 ∧ t.slipOlder = r.slipNewer ∧ t.asm = .hunting ∧
    t.badMarkers = (if r.asm = .hunting then r.badMarkers else min 255 (r.badMarkers + 1)) ∧
    t.n = (if r.run = none then r.n else min 65535 (r.n + 8)) ∧
    (t.faults.clock = true ↔ r.faults.clock = true ∨ ∃ age, r.slipOlder = some age ∧ age < 48000) ∧
    (late → t.faults.stall = true ∧ t.posValid = false ∧ t.run = none) ∧
    (¬late → t.faults.stall = r.faults.stall ∧ t.posValid = r.posValid ∧ t.run = r.run))

/-- The coming sample period, under the orders `o`, takes neither a marker timeout nor the end of CLOCK of
rig `x` (R15, R35). -/
def Part.Punctual (p : Part) (o : Orders) (x : Rig) : Prop :=
  let r := p.rig x
  (r.run ≠ some .playing ∨ r.n + 1 < 3 * p.align.settings.rate.spf + 7) ∧
  (r.faults.clock = false ∨ ∀ age, r.slipNewer = some age →
    age < 480000 ∧ (o.clearFirst x = true → age + 1 < 480000))

/-- The coming sample period is its block's 48th, and the orders `o` take the boundary within it (R46). -/
abbrev Part.BoundaryWithin (p : Part) (o : Orders) : Prop :=
  o.boundary ≠ .last ∧ 47 ≤ p.blockPhase ∧ p.blockPhase ≠ 48

/-- In `q` an entry into FADING in the sample period of `p`, under the orders `o`, has abandoned the work on
slot `k`: in SHOW, or at a panel contact (R186). -/
def Part.AbandonsIn (p : Part) (o : Orders) (k : Fin 8) (q : Part) : Prop :=
  (p.mode = .shows ∨ (p.mode = .rehearsal ∧
    ∃ j, let n := (p.panel.get j).change
      10 ≤ n ∨ (n = 9 ∧ (p.blockPhase = 48 ∨ (p.BoundaryWithin o ∧ o.contactsTaken ≠ []))))) ∧
  q.store.activity = .idle ∧ (q.store.slot k).state = .damaged ∧
  (q.link.notices[(7 : Fin 8)]).map Notice.detail = some (.store (some k) .abandoned)

/-! ### Deltas -/

/-- From `r` to `q` the delta of each fault kind that joined or left is set, and RUN's where the run state
changed; a delta already set stays set, and no other is (R19). -/
def RigPort.SetsDeltas (r q : RigPort) : Prop :=
  (∀ k, q.deltas.faults.has k = (r.deltas.faults.has k || r.faults.has k != q.faults.has k)) ∧
  q.deltas.run = (r.deltas.run || r.run != q.run)

/-- From `p` to `q` the ALIGN delta of both rigs is set where the aligned flag changed, and no other
(R52). -/
def Part.SetsAlignDeltas (p q : Part) : Prop :=
  ∀ y, (q.rig y).deltas.align = ((p.rig y).deltas.align || p.align.aligned != q.align.aligned)

/-- From `p` to `q` RIG_CHANGE is raised where a delta has gone from clear to set, and names the rigs whose
delta sets are then non-empty (R20). -/
def Part.TellsRigChange (p q : Part) : Prop :=
  if q.rigA.deltas = p.rigA.deltas ∧ q.rigB.deltas = p.rigB.deltas
  then q.link.notices[(2 : Fin 8)] = p.link.notices[(2 : Fin 8)]
  else (q.link.notices[(2 : Fin 8)]).map Notice.detail =
    some (.rigChange (!q.rigA.deltas.isEmpty) (!q.rigB.deltas.isEmpty))

/-! ### What an arrival leaves of a group -/

/-- In `q` the fade of group `g`, whose ramp in `p` is `m`, has been reversed, PINNED as given: it fades back
from the weight that the new DEST has, or has landed there where that is unity, with MOVED, and nothing is
left in flight (R117, R127, R130, R146). -/
def Part.Reverses (p q : Part) (g : Fin 12) (pin : Bool) (m : Ramp) : Prop :=
  let z := q.group g
  z.refRig = (p.group g).source ∧ z.pinned = pin ∧ z.returnCount = 0 ∧ z.returnExpired = false ∧
  (m.weight ≠ 0 → ∃ age, z.state =
    .fading ⟨32768 - m.weight, if m.step = 0 then m.length else m.step, 0, age⟩) ∧
  (m.weight = 0 → z.state = if pin then .held else .settled) ∧
  q.store = p.abandonStore.store ∧ q.link.notices[(1 : Fin 8)].isSome = true

/-- In `q` group `g`, which an arrival left SETTLED on its reference rig `x` with the faults, flags and terms
of `p`, stands where the judge leaves it at that arrival: SETTLED, with REPORTED where evidence stands; or,
with evidence in SHOW under AUTO, CONFIRMING for its full hold-off; or, with HOLD_OFF 0, moved to the other
rig if that is ready, and STRANDED if not (R108, R109, R110, R111, R113, R115, R127, R143). -/
def Part.SettledJudged (p q : Part) (g : Fin 12) (x : Rig) : Prop :=
  let y := otherRig x
  let z := q.group g
  let hold := z.settings.holdOff
  let len := p.fadeLength g y
  let leaves := p.mode = .shows ∧ p.policy g = .auto ∧ p.evidence g x = true
  (¬leaves → z.state = .settled ∧ z.source = x ∧
    (z.reported = true ↔ p.mode ≠ .standby ∧ p.evidence g x = true)) ∧
  (leaves → hold ≠ 0 → z.state = .confirming hold ∧ z.source = x) ∧
  (leaves → hold = 0 → p.ready g y = false →
    z.state = .stranded ∧ z.source = x ∧ q.link.notices[(0 : Fin 8)].isSome = true) ∧
  (leaves → hold = 0 → p.ready g y = true →
    z.refRig = y ∧ z.pinned = false ∧ q.store = p.abandonStore.store ∧
    q.link.notices[(1 : Fin 8)].isSome = true ∧ (len = 0 → z.state = .settled) ∧
    (len ≠ 0 → ∃ age, z.state = .fading ⟨0, len, 0, age⟩))

/-- In `q` the unpinned fade of group `g`, with the ramp `m` and the faults, flags and terms of `p`, stands
where the judge leaves it: reversed where R117 has it so, and running on where not. -/
def Part.FadeJudged (p q : Part) (g : Fin 12) (m : Ramp) : Prop :=
  let r := p.group g
  let turns := p.mode = .shows ∧ p.policy g = .auto ∧ p.evidence g (otherRig r.source) = true ∧
    p.ready g r.source = true
  (turns → p.Reverses q g false m) ∧
  (¬turns → (q.group g).state = .fading m ∧ (q.group g).source = r.source)

/-- In `q` group `g` of `p` has been released by an unpin event, and judged (R133). -/
def Part.Unpins (p q : Part) (g : Fin 12) : Prop :=
  let r := p.group g
  (q.group g).pinned = false ∧
  (r.state = .held → r.returnExpired = false → p.SettledJudged q g r.source) ∧
  ∀ m, r.state = .fading m → p.FadeJudged q g m

/-- In `q` group `g` of `p` has been pinned to rig `x` outside STANDBY (R130, R132, R143). -/
def Part.PinsTo (p q : Part) (g : Fin 12) (x : Rig) : Prop :=
  let r := p.group g
  let z := q.group g
  let len := p.fadeLength g x
  z.pinned = true ∧ z.refRig = x ∧ (p.evidence g x = true → z.reported = true) ∧
  (r.refRig = x → r.isFading = false → z.state = .held) ∧
  (r.refRig = x → r.isFading = true → z.state = r.state) ∧
  (r.refRig ≠ x → r.isFading = false → len = 0 → z.state = .held) ∧
  (r.refRig ≠ x → r.isFading = false → len ≠ 0 → ∃ age, z.state = .fading ⟨0, len, 0, age⟩) ∧
  ∀ m, r.refRig ≠ x → r.state = .fading m → p.Reverses q g true m

/-! ### Start-up -/

/-- Step 3 of start-up by its table: from `p`, the part after steps 1 and 2, start-up ends with `q`
(R190). -/
def Part.BootsTo (p q : Part) : Prop :=
  (p.store.boot = none → q = p.raise (.store none .bootEmpty)) ∧
  (∀ k, p.store.boot = some k → (p.store.slot k).state = .empty →
    q = p.raise (.store (some k) .bootEmpty)) ∧
  (∀ k, p.store.boot = some k → (p.store.slot k).state = .damaged →
    q = p.raise (.store (some k) .bootFailed)) ∧
  ∀ k w, p.store.boot = some k → (p.store.slot k).state = .valid → (p.store.slot k).stored = some w →
    (contentSum w.contents ≠ w.sum →
      let bad := p.store.setSlot k { p.store.slot k with state := .damaged }
      q = (p.setStore bad).raise (.store (some k) .bootFailed)) ∧
    (contentSum w.contents = w.sum →
      q.snapshot = w.contents ∧ q.map.generation = 1 ∧ q.map.cursorGen = 1 ∧
      q.link.notices[(7 : Fin 8)] = none ∧ q.link.notices[(4 : Fin 8)] = none ∧ q.store = p.store ∧
      ∀ g : Fin 12, q.group g = Group.settledOn w.contents.groups[g] (w.contents.groups[g]).home)

/-! ### Record bodies -/

/-- The number of EXPECT pairs that a record body declares. -/
def recordPairCount (body : List Byte) : Nat := (body.getD 12 0).toNat

/-- The bytes of a record body's EXPECT pairs. -/
def recordPairs (body : List Byte) : List Byte := (body.drop 13).take (recordPairCount body)

/-- The bytes of a record body's label. -/
def recordLabel (body : List Byte) : List Byte := body.drop (14 + recordPairCount body)

/-- A record body passes the length checks (R63). -/
abbrev RecordShaped (body : List Byte) : Prop :=
  let label := (body.getD (13 + recordPairCount body) 0).toNat
  14 ≤ body.length ∧ body.length = 14 + recordPairCount body + label ∧ label ≤ 16

/-- A record body of a right length passes the value checks (R63). -/
abbrev RecordValued (rate : Rate) (body : List Byte) : Prop :=
  let at' := fun i => body.getD i 0
  let id := num2 (at' 0) (at' 1)
  let start := num3 (at' 2) (at' 3) (at' 4)
  let length := num2 (at' 5) (at' 6)
  1 ≤ id ∧ id ≤ 4095 ∧ start < rate.dayFrames ∧ 1 ≤ length ∧ start + length ≤ rate.dayFrames ∧
  (at' 8).toNat ≤ 1 ∧ (at' 9).toNat ≤ 1 ∧ recordPairCount body ≤ 12 ∧
  (∀ c ∈ recordPairs body, c.toNat / 16 ≤ 11 ∧ 1 ≤ c.toNat % 16 ∧ c.toNat % 16 ≤ 3) ∧
  ((recordPairs body).map fun c => c.toNat / 16).Nodup ∧
  ∀ c ∈ recordLabel body, 0x20 ≤ c.toNat ∧ c.toNat ≤ 0x7E

/-- The record that a body which passes both checks carries, with TAIL stored at most LENGTH and a present
FADE at most 4,800, and whether either was clamped (R54, R64). -/
abbrev Segment.CarriedBy (r : Segment) (body : List Byte) (clamped : Bool) : Prop :=
  let at' := fun i => body.getD i 0
  let tail := (at' 7).toNat
  let fade := num2 (at' 10) (at' 11)
  r.id = num2 (at' 0) (at' 1) ∧ r.start = num3 (at' 2) (at' 3) (at' 4) ∧
  r.length = num2 (at' 5) (at' 6) ∧ r.tail = min r.length tail ∧
  (r.policy = .manualOnly ↔ at' 8 = 1) ∧
  r.fade = (if at' 9 = 1 then some (min 4800 fade) else none) ∧
  r.expect.map (fun q => (q.1.val, q.2.code.toNat)) =
    (recordPairs body).map (fun c => (c.toNat / 16, c.toNat % 16)) ∧
  r.label = recordLabel body ∧ (clamped = true ↔ r.length < tail ∨ (at' 9 = 1 ∧ 4800 < fade))

/-! ### Current segments -/

/-- In the map `n` the rig `x`, at frame `f`, holds what R58 finds for it in the map `m`: the LIVE record that
contains `f`, else the RETIRING record that it held if that contains `f`, else the gap. -/
def SegMap.Places (m n : SegMap) (x : Rig) (f : Nat) : Prop :=
  (∀ r ∈ m.recs, r.retiring = false → r.seg.contains f = true → n.held x = some r.seg.id) ∧
  ((∀ r ∈ m.recs, r.retiring = false → r.seg.contains f = false) →
    (∀ r ∈ m.recs, r.retiring = true → m.held x = some r.seg.id → r.seg.contains f = true →
      n.held x = some r.seg.id) ∧
    ((∀ r ∈ m.recs, r.retiring = true → m.held x = some r.seg.id → r.seg.contains f = false) →
      n.held x = none))

/-- The map `n` is what an edit that gives the map `m` leaves, once the rigs' current segments have been
set afresh: a position-valid rig is inside the LIVE record that contains its F_last, else the RETIRING
record that it held if that does, else in the gap; a RETIRING record that no rig holds any longer is
removed, and GENERATION counts each removal (R58, R59, R71, R78). -/
def SegMap.Settles (m n : SegMap) (p : Part) : Prop :=
  (∀ x, (p.rig x).posValid = false → n.held x = m.held x) ∧
  (∀ x, (p.rig x).posValid = true → m.Places n x (p.rig x).fLast) ∧
  n.recs = m.recs.filter (fun r =>
    !r.retiring || n.heldA == some r.seg.id || n.heldB == some r.seg.id) ∧
  n.generation = (m.generation + (m.recs.length - n.recs.length)) % 65536 ∧
  n.cursorIndex = m.cursorIndex ∧ n.cursorGen = m.cursorGen

/-! ### Frames -/

/-- `q` differs from `p` at most where moves and judgements reach: in the group records, but no setting;
in the notices STRANDED, MOVED, WOULD_MOVE and STORE; in the store by an abandonment alone; and in the
generator, but neither its settings, its cadence count nor the marker in progress (R108, R115, R126, R127,
R155). -/
def Part.Moves (p q : Part) : Prop :=
  q = { p with groups := q.groups, link := { p.link with notices := q.link.notices },
               store := q.store, tc := q.tc } ∧
  (∀ g, (q.group g).settings = (p.group g).settings) ∧
  (∀ k : Fin 8, k = 2 ∨ k = 4 ∨ k = 5 ∨ k = 6 → q.link.notices[k] = p.link.notices[k]) ∧
  (q.store = p.store ∨ q.store = p.abandonStore.store) ∧
  q.tc.settings = p.tc.settings ∧ q.tc.cadence = p.tc.cadence ∧ q.tc.sending = p.tc.sending

/-- `q` is `p` after a handover that was due: but for the block's count, the Watch, the panel and BOTH_QUIET
it differs at most where moves and judgements reach (R90, R108; assumption log 11). -/
def Part.HandsOverTo (p q : Part) : Prop :=
  Part.Moves { p with
    blockPhase := q.blockPhase, handedOver := q.handedOver, watch := q.watch, panel := q.panel,
    link := { p.link with notices := p.link.notices.set 5 q.link.notices[(5 : Fin 8)] } } q

/-! ### The configuration -/

/-- What the host sets up: the mode, every setting, the membership, the notice mask, the boot slot, the
slots' LOCKED attributes and the straps. -/
structure Configuration where
  mode : Mode
  shows : ShowSettings
  preference : Preference
  tc : TcSettings
  groups : Vector GroupSettings 12
  members : Vector (Fin 12) 48
  mask : Byte
  boot : Option (Fin 8)
  locked : Vector Bool 8
  straps : BitVec 5 × BitVec 2
  deriving DecidableEq, Repr

/-- The configuration of the part. -/
def Part.config (p : Part) : Configuration where
  mode := p.mode
  shows := p.align.settings
  preference := p.clock.preference
  tc := p.tc.settings
  groups := p.groups.map Group.settings
  members := p.members
  mask := p.link.mask
  boot := p.store.boot
  locked := p.store.slots.map Slot.locked
  straps := (p.link.unitAddr, p.link.rateStrap)

/-! ### Conditions that every step keeps -/

/-- The aligned flag stands exactly where its condition does (R51). -/
def Part.AlignedSound (p : Part) : Prop := p.align.aligned = p.align.inStep

/-- The followed rig is the reference rig of the LEADER group (R155). -/
def Part.FollowsLeader (p : Part) : Prop := p.tc.followed = (p.group p.tc.settings.leader).refRig

/-- S and the pending skew stay within −511 to +511 (R44). -/
def AlignmentUnit.SkewSound (u : AlignmentUnit) : Prop :=
  -511 ≤ u.s ∧ u.s ≤ 511 ∧ ∀ t, u.pendingSkew = some t → -511 ≤ t ∧ t ≤ 511

/-- A group record agrees with its state: PINNED in HELD and in a pinned fade alone, ramp fields in
range, a hold-off count still to run, no state of the judge's outside SHOW and no ramp in STANDBY (R103,
R104, R105, R111, R140, R142). -/
def Group.Sound (mode : Mode) (r : Group) : Prop :=
  match r.state with
  | .settled => r.pinned = false
  | .confirming n => r.pinned = false ∧ mode = .shows ∧ 1 ≤ n ∧ n ≤ 500
  | .stranded => r.pinned = false ∧ mode = .shows
  | .held => r.pinned = true
  | .fading m =>
    m.startWeight < unity ∧ 1 ≤ m.length ∧ m.length ≤ 4800 ∧ m.step < m.length ∧ mode ≠ .standby

/-- Every group record is sound. -/
def Part.GroupsSound (p : Part) : Prop := ∀ g, (p.group g).Sound p.mode

/-- A group's settings stand in their ranges (R96). -/
def GroupSettings.InRange (s : GroupSettings) : Prop :=
  s.fadeLen ≤ 4800 ∧ s.holdOff ≤ 500 ∧ 1 ≤ s.threshold ∧ s.threshold ≤ 8388608 ∧
  50 ≤ s.quietWindow ∧ s.quietWindow ≤ 60000 ∧ 1 ≤ s.returnDelay ∧ s.returnDelay ≤ 600

/-- A record's FADE stands in its range (R54). -/
def Segment.FadeInRange (s : Segment) : Prop := ∀ f, s.fade = some f → f ≤ 4800

/-- A saved configuration's group settings and fades stand in their ranges (R183). -/
def ShowContents.InRange (c : ShowContents) : Prop :=
  (∀ g : Fin 12, c.groups[g].InRange) ∧ ∀ s ∈ c.segs, s.FadeInRange

/-- Every group's settings and every record's FADE stand in their ranges, and so do those of every
snapshot and stored configuration, which a load brings into the part (R54, R96, R183). -/
def Part.SettingsInRange (p : Part) : Prop :=
  (∀ g, (p.group g).settings.InRange) ∧ (∀ r ∈ p.map.recs, r.seg.FadeInRange) ∧
  (∀ k w, (p.store.slot k).stored = some w → w.contents.InRange) ∧
  (∀ k c n, p.store.activity = .saveErase k c n ∨ p.store.activity = .saveWrite k c n → c.InRange)

/-- The clock: a current source that is usable and never after INT in PREFERENCE, and a restore timer
exactly where the lane is LOCKED (R24, R26, R27). -/
def Part.ClockSound (p : Part) : Prop :=
  p.usable p.clock.current = true ∧ Source.int ∉ p.clock.earlier ∧
  (p.clock.timerA.isSome = (p.rigA.lock == .locked)) ∧ (p.clock.timerB.isSome = (p.rigB.lock == .locked))

/-- A Rig Port: position-valid exactly while the run state is known, an IDLE empty buffer and LINK while
UNLOCKED, fewer than 8 frames held in FILLING and at most 16 ever, a sequence base only under PLAYING, slip
ages of at most 480,000, and an older one only beside a newer one that is not above it (R5, R10, R11, R14, R31,
R35). -/
def RigPort.Sound (r : RigPort) : Prop :=
  (r.posValid = r.run.isSome) ∧
  (r.lock = .unlocked → r.bufState = .idle ∧ r.frames = [] ∧ r.faults.link = true) ∧
  (r.bufState = .filling → r.frames.length < 8) ∧
  r.frames.length ≤ 16 ∧ (r.seqBase = true → r.run = some .playing) ∧
  (∀ age, r.slipNewer = some age → age ≤ 480000) ∧
  ∀ older, r.slipOlder = some older → older ≤ 480000 ∧ ∃ age, r.slipNewer = some age ∧ age ≤ older

/-- The map: order, spans and capacity of R56, current segments that are records of the map, and a
RETIRING record only while a rig holds it (R56, R70, R71). -/
def SegMap.Sound (m : SegMap) : Prop :=
  m.wf = true ∧
  (∀ x id, m.held x = some id → (m.find id).isSome = true) ∧
  (∀ r ∈ m.recs, r.retiring = true → m.heldA = some r.seg.id ∨ m.heldB = some r.seg.id)

/-- Saved records that a map could hold as they stand (R56, R183). -/
def ShowContents.SegsSound (c : ShowContents) : Prop :=
  SegMap.Sound ⟨c.segs.map fun s => ⟨s, false⟩, none, none, 0, 0, 0⟩

/-- The map is sound, and so are the records of every snapshot and stored configuration, which a load
brings into it (R183). -/
def Part.MapSound (p : Part) : Prop :=
  p.map.Sound ∧ (∀ k w, (p.store.slot k).stored = some w → w.contents.SegsSound) ∧
  (∀ k c n, p.store.activity = .saveErase k c n ∨ p.store.activity = .saveWrite k c n → c.SegsSound)

/-- The store of a part at work: WRITING is exactly the slot of the work in flight (R183, R186). -/
def Store.Sound (s : Store) : Prop :=
  ∀ k : Fin 8, (s.slot k).state = .writing ↔ s.activity.slot = some k

end Sys2Proof.Machine
end

