-- ==== Sys2Proof/Certificates/Slice0/Obligations.lean ====
section
/-! DEFINITION. The statements for the provers. A statement that rests on a choice of the model names the
entry of the assumption log. -/

open Sys2Proof Sys2Proof.Machine

/-! ### The queue -/

/-- A step takes the command at the front of the queue and executes it on the rest; with nothing waiting
the part idles (the model's choice, assumption log 5). Every command answers a next state, and none of
them touches the queue. -/
def Obligations.StepTakesTheFrontCommand : Prop :=
  (∀ (c : Instr) (rest : List Instr) (s : State),
    step { s with pending := c :: rest } = exec c { s with pending := rest }) ∧
  (∀ s : State, s.pending = [] → step s = .next s) ∧
  ∀ (c : Instr) (s : State), ∃ t, exec c s = .next t ∧ t.pending = s.pending

/-! ### The command link -/

/-- An addressed request to a unit that hears it is answered with exactly one result, and a result of
0x10 or above says that nothing changed but the reply. SLOT_LOAD alone, finding in STANDBY with the store
idle that the VALID slot it names has not the sum recorded with its contents, marks that slot DAMAGED
(R171, R174, R188). -/
def Obligations.AddressedRequestIsAnswered : Prop :=
  ∀ (c : Instr) (s : State) (code : Byte) (body : List Byte),
    c.request = some (code, .addressed, body) → c.wellFormed = true → s.hears →
    ∃ q r reply, exec c s = .next (s.answered q code r reply) ∧
      (16 ≤ r.code.toNat → q = s.part ∨
        (code = 0x72 ∧ r = .damaged ∧ s.part.mode = .standby ∧ s.part.store.activity = .idle ∧
          ∃ k : Fin 8, body = [u8 k] ∧ (s.part.store.slot k).state = .valid ∧
            (∀ w, (s.part.store.slot k).stored = some w → contentSum w.contents ≠ w.sum) ∧
            q = s.part.setStore (s.part.store.setSlot k { s.part.store.slot k with state := .damaged })))

/-- A broadcast MODE_SET, GROUP_PIN, GROUP_UNPIN or GROUP_HOME does what the addressed request does, on a
listen-only unit as on any other, and fixes no reply; any other broadcast request does nothing, and a
listen-only unit takes no addressed request (R166, R173; that a request row is a whole frame is assumption
log 6). -/
def Obligations.BroadcastHonoursFourRequests : Prop :=
  (∀ (s : State) (body : List Byte), s.part.atWork = true → s.part.link.rx = .idle → body.length ≤ 59 →
    ∀ c ∈ [((0x60 : Byte), Instr.modeSet .addressed body, Instr.modeSet .broadcast body),
        (0x5D, .groupPin .addressed body, .groupPin .broadcast body),
        (0x5E, .groupUnpin .addressed body, .groupUnpin .broadcast body),
        (0x5C, .groupHome .addressed body, .groupHome .broadcast body)],
      let a := s.part.handle c.1 body
      exec c.2.1 s = .next
        (if s.part.link.listenOnly then s else s.answered a.part c.1 a.result a.body) ∧
      exec c.2.2 s = .next { s with part := a.part.setRx .idle } ∧
      a.part.link.reply = s.part.link.reply) ∧
  ∀ (c : Instr) (s : State) (code : Byte) (body : List Byte),
    c.request = some (code, .broadcast, body) → c.wellFormed = true →
    s.part.atWork = true → s.part.link.rx = .idle →
    code ≠ 0x60 → code ≠ 0x5D → code ≠ 0x5E → code ≠ 0x5C → exec c s = .next s

/-- A request sent character by character, address, LEN, CODE, body and CHECK, leaves the part exactly as
the request's own row does: the receiver of R167 and R168 assembles what R171 and R173 execute. -/
def Obligations.CharactersCarryARequest : Prop :=
  ∀ (c : Instr) (s : State) (code : Byte) (via : Via) (body : List Byte),
    c.request = some (code, via, body) → c.wellFormed = true → s.hears →
    State.taking (frameCharacters (s.part.link.addressOf via) code body) s = exec c s

/-- An address character is taken by the receiver's state and its value, and one above 31 is passed over.
A gap or a framing error discards a partial request, counts it and leaves the receiver IDLE, and does
nothing in any other state of the receiver (R166, R167, R169; that a framing error on an address
character comes before its value is the model's choice, assumption log 23). -/
def Obligations.AddressCharactersAndGaps : Prop :=
  ∀ (s : State) (v : Byte), s.part.atWork = true →
    (31 < v.toNat → exec (.addressCharacter v true) s = .next s) ∧
    (v.toNat ≤ 31 →
      let own := v.toNat = s.part.link.unitAddr.toNat ∧ v.toNat ≠ 0 ∧ v.toNat ≠ 31
      let rx := if v.toNat = 31 then Receiver.collecting .broadcast []
        else if own then .collecting .addressed [] else .idle
      let l := s.part.link
      (l.rx = .idle →
        exec (.addressCharacter v true) s = .next { s with part := s.part.setRx rx }) ∧
      (∀ via part, l.rx = .collecting via part →
        let l' := { l with rx := rx, errors := min 255 (l.errors + 1) }
        exec (.addressCharacter v true) s = .next { s with part := { s.part with link := l' } }) ∧
      (l.rx = .draining →
        let l' := { l with rx := rx, reply := none }
        exec (.addressCharacter v true) s = .next { s with part := { s.part with link := l' } }) ∧
      (l.rx = .replying → exec (.addressCharacter v true) s = .next s)) ∧
    ∀ c ∈ [Instr.characterGap, .dataCharacter v false, .addressCharacter v false],
      (∀ via part, s.part.link.rx = .collecting via part →
        let l := { s.part.link with rx := .idle, errors := min 255 (s.part.link.errors + 1) }
        exec c s = .next { s with part := { s.part with link := l } }) ∧
      ((∀ via part, s.part.link.rx ≠ .collecting via part) → exec c s = .next s)

/-- A data character is passed over or discarded outside COLLECTING. In COLLECTING the first is LEN,
refused outside 2 to 61; later ones join the partial request. The last of a request whose check fails
executes nothing and is counted; the last of one whose check holds and whose CODE names no request is
answered UNKNOWN if addressed, changes nothing else, and is not counted (R168, R170, R171, R173). -/
def Obligations.DataCharacterJoinsTheRequest : Prop :=
  ∀ (s : State) (v : Byte), s.part.atWork = true →
    ((s.part.link.rx = .idle ∨ s.part.link.rx = .draining ∨ s.part.link.rx = .replying) →
      exec (.dataCharacter v true) s = .next s) ∧
    (∀ via, s.part.link.rx = .collecting via [] →
      (2 ≤ v.toNat → v.toNat ≤ 61 →
        exec (.dataCharacter v true) s = .next { s with part := s.part.setRx (.collecting via [v]) }) ∧
      (v.toNat < 2 ∨ 61 < v.toNat →
        let rx := if via = .addressed then Receiver.draining else .idle
        exec (.dataCharacter v true) s = .next { s with part := s.part.linkError.setRx rx })) ∧
    (∀ via len rest, s.part.link.rx = .collecting via (len :: rest) →
      (rest.length + 1 < len.toNat →
        exec (.dataCharacter v true) s =
          .next { s with part := s.part.setRx (.collecting via (len :: rest ++ [v])) }) ∧
      (rest.length + 1 = len.toNat → byteSum (len :: rest ++ [v]) % 256 ≠ 0 →
        let reply : Reply := ⟨(rest ++ [v]).getD 0 0, .badCheck, [], false, false⟩
        let q := if via = .addressed then (s.part.linkError.setRx .replying).setReply (some reply)
          else s.part.linkError.setRx .idle
        exec (.dataCharacter v true) s = .next { s with part := q }) ∧
      (rest.length + 1 = len.toNat → byteSum (len :: rest ++ [v]) % 256 = 0 →
        let code := (rest ++ [v]).getD 0 0
        (∀ (c : Instr) (w : Via) (body : List Byte), c.request ≠ some (code, w, body)) →
        exec (.dataCharacter v true) s = .next (if via = .addressed
          then s.answered s.part code .unknown []
          else { s with part := s.part.setRx .idle })))

/-- The quiet that ends DRAINING makes a BAD_LENGTH reply with CODE 0x00; a reply's start puts the
receiver into REPLYING with the link driven, and its end releases the link and leaves the receiver IDLE (R170,
R172; that DRAIN_QUIET outside DRAINING does nothing is the model's choice, assumption log 8). -/
def Obligations.RepliesStartAndEnd : Prop :=
  ∀ s : State, s.part.atWork = true →
    (s.part.link.rx = .draining → s.part.link.reply = none →
      let q := s.part.setReply (some ⟨0x00, .badLength, [], false, false⟩)
      exec .drainQuiet s = .next { s with part := q }) ∧
    (s.part.link.rx ≠ .draining → exec .drainQuiet s = .next s) ∧
    (∀ r, s.part.link.reply = some r → r.started = false →
      let l := { s.part.link with rx := .replying, reply := some { r with started := true } }
      exec .replyStart s = .next { s with part := { s.part with link := l } } ∧
      Part.drivesLink { s.part with link := l } = true) ∧
    (∀ r a b, s.part.link.reply = some r → r.started = true → r.restarts = false →
      let l := { s.part.link with rx := .idle, reply := none }
      exec (.replyEnd a b) s = .next { s with part := { s.part with link := l } } ∧
      Part.drivesLink { s.part with link := l } = false)

/-- RESTART replies OK and does nothing else. At the end of its reply every block stands at its reset
values with the straps sampled afresh, the slots are kept but for WRITING, which becomes DAMAGED, and the
boot slot is loaded or STORE says why not; the block phase runs on, and TC_OUT carries a marker in progress
to its end (R1, R156, R177, R190; that the marker goes on across the restart is the model's deduction,
assumption log 22). -/
def Obligations.RestartIsTakenAtTheEndOfItsReply : Prop :=
  (∀ s : State, s.hears →
    exec (.restart .addressed []) s = .next (s.answered s.part 0x0F .ok []) ∧
    ∀ body, body ≠ [] → body.length ≤ 59 →
      exec (.restart .addressed body) s = .next (s.refused 0x0F .badLength)) ∧
  ∀ (s : State) (r : Reply) (a : BitVec 5) (b : BitVec 2), s.part.atWork = true →
    s.part.link.reply = some r → r.started = true → r.restarts = true →
    let n := s.part.panel
    let slots := s.part.store.slots.map fun k =>
      if k.state = .writing then { k with state := .damaged, stored := none } else k
    let p := Part.afterReset a b s.part.blockPhase n.a.rawClosed n.b.rawClosed n.free.rawClosed
      { s.part.store with slots := slots }
    ∃ t, exec (.replyEnd a b) s = .next t ∧ t.part.mode = .standby ∧ t.part.atWork = true ∧
      t.part.tc.sending = s.part.tc.sending ∧ t.part.tcOut = s.part.tcOut ∧
      Part.BootsTo { p with
        handedOver := s.part.handedOver, tcOut := s.part.tcOut,
        tc := { p.tc with sending := s.part.tc.sending } } t.part

/-- IDENTIFY (R175): five bytes for an empty body, BAD_LENGTH for any other, nothing changed, in every
show mode. A listen-only unit takes no addressed request (R166), and a request row at one is without effect
in every state of its receiver (the model's choice, assumption log 6). -/
def Obligations.IdentifyTellsThePart : Prop :=
  (∀ s : State, s.hears →
    exec (.identify .addressed []) s = .next (s.answered s.part 0x01 .ok
      [0x48, 0x12, 0x01, u8 s.part.link.unitAddr.toNat, u8 s.part.link.rateStrap.toNat]) ∧
    ∀ body, body ≠ [] → body.length ≤ 59 →
      exec (.identify .addressed body) s = .next (s.refused 0x01 .badLength)) ∧
  ∀ (s : State) (body : List Byte), s.part.link.unitAddr = 0 ∨ s.part.link.unitAddr = 31 →
    exec (.identify .addressed body) s = .next s

/-- STATUS: 23 bytes in the order of the Formats section, nothing changed, and BAD_LENGTH for a body
(R176, R182). -/
def Obligations.StatusReportsEveryBlock : Prop :=
  ∀ s : State, s.hears →
    let p := s.part
    (exec (.status .addressed []) s = .next (s.answered p 0x02 .ok
      ([p.mode.code, p.clock.current.code, p.clock.preference.first.code,
          p.clock.preference.second.code, p.clock.preference.third.code] ++
        be16 (p.align.s % 65536).toNat ++
        (match p.align.d with
          | some d => be32 (d % 4294967296).toNat
          | none => [0, 0, 0, 0]) ++
        [u8 (bit p.align.d.isNone + 2 * bit p.align.stale + 4 * bit p.align.aligned),
          u8 p.rigA.faults.bitmap, u8 p.rigB.faults.bitmap,
          u8 (bit (p.tally .a) + 2 * bit (p.tally .b) + 4 * bit p.panel.a.closed +
            8 * bit p.panel.b.closed + 16 * bit p.panel.free.closed),
          u8 p.panel.a.closures, u8 p.panel.b.closures, u8 p.panel.free.closures] ++
        p.store.activity.bytes ++ [p.link.pendingBits, p.link.mask, u8 p.link.errors]))) ∧
    p.statusBody.length = 23 ∧
    ∀ body, body ≠ [] → body.length ≤ 59 →
      exec (.status .addressed body) s = .next (s.refused 0x02 .badLength)

/-! ### Notices -/

/-- Raising a notice makes its kind pending with this occurrence's detail and a count one higher, at most
255, and touches no other kind (R178). NOTICE_READ without a body returns and clears the pending unmasked
kind of highest priority, or NONE; with a kind code it returns and clears that kind, masked or not
(R179). -/
def Obligations.RaisedNoticesAreReadAndCleared : Prop :=
  (∀ (p : Part) (d : NoticeDetail),
    let count := match p.link.notices[d.kind.index] with
      | some n => min 255 (n.count + 1)
      | none => 1
    p.raise d = { p with link := { p.link with
      notices := p.link.notices.set d.kind.index (some ⟨d, count⟩) } }) ∧
  ∀ s : State, s.hears →
    ((∀ k : Fin 8, s.part.link.notices[k] = none ∨ s.part.link.mask.getLsbD k = true) →
      exec (.noticeRead .addressed []) s =
        .next (s.answered s.part 0x08 .ok [0, 0, 0, 0, 0, 0])) ∧
    (∀ (k : Fin 8) (n : Notice), s.part.link.notices[k] = some n →
      let cleared := { s.part.link with notices := s.part.link.notices.set k none }
      let q := { s.part with link := cleared }
      let reply := [u8 (k.val + 1), u8 n.count] ++ n.detail.bytes
      exec (.noticeRead .addressed [u8 (k.val + 1)]) s = .next (s.answered q 0x08 .ok reply) ∧
      (s.part.link.mask.getLsbD k = false →
        (∀ j : Fin 8, j < k → s.part.link.notices[j] = none ∨ s.part.link.mask.getLsbD j = true) →
        exec (.noticeRead .addressed []) s = .next (s.answered q 0x08 .ok reply))) ∧
    (∀ k : Fin 8, s.part.link.notices[k] = none →
      exec (.noticeRead .addressed [u8 (k.val + 1)]) s =
        .next (s.answered s.part 0x08 .ok [0, 0, 0, 0, 0, 0])) ∧
    (∀ b : Byte, b = 0 ∨ 8 < b.toNat →
      exec (.noticeRead .addressed [b]) s = .next (s.refused 0x08 .badValue)) ∧
    ∀ body, 2 ≤ body.length → body.length ≤ 59 →
      exec (.noticeRead .addressed body) s = .next (s.refused 0x08 .badLength)

/-- NOTICE_MASK (R180): a read and a write of the whole mask, which changes no entry, in every show mode.
A masked kind does not hold ATTN and is not returned by a read without body; the highest kind that is
pending and unmasked is, and a kind named by its code is returned though masked. STATUS shows the pending
kinds, masked ones included. A broadcast does nothing. -/
def Obligations.NoticeMaskIsReadAndReplaced : Prop :=
  ∀ s : State, s.hears →
    exec (.noticeMask .addressed []) s = .next (s.answered s.part 0x09 .ok [s.part.link.mask]) ∧
    (∀ m : Byte,
      let q := { s.part with link := { s.part.link with mask := m } }
      exec (.noticeMask .addressed [m]) s = .next (s.answered q 0x09 .ok [m]) ∧
      (q.attn = true ↔ ∃ k : Fin 8, s.part.link.notices[k].isSome = true ∧ m.getLsbD k = false) ∧
      (∀ k : Fin 8, q.link.topKind = some k ↔
        s.part.link.notices[k].isSome = true ∧ m.getLsbD k = false ∧
        ∀ j : Fin 8, j < k → s.part.link.notices[j] = none ∨ m.getLsbD j = true) ∧
      (∀ (k : Fin 8) (n : Notice), s.part.link.notices[k] = some n →
        exec (.noticeRead .addressed [u8 (k.val + 1)]) { s with part := q } =
          .next (s.answered { q with link := { q.link with notices := q.link.notices.set k none } }
            0x08 .ok ([u8 (k.val + 1), u8 n.count] ++ n.detail.bytes))) ∧
      ∀ k : Fin 8, q.link.notices[k] = s.part.link.notices[k] ∧
        q.link.pendingBits.getLsbD k = s.part.link.notices[k].isSome ∧
        q.statusBody.getD 20 0 = q.link.pendingBits ∧ q.statusBody.getD 21 0 = m) ∧
    (∀ body, 2 ≤ body.length → body.length ≤ 59 →
      exec (.noticeMask .addressed body) s = .next (s.refused 0x09 .badLength)) ∧
    ∀ body, body.length ≤ 59 → exec (.noticeMask .broadcast body) s = .next s

/-! ### Rig lanes, markers and faults -/

/-- The lock table of a lane receiver, with a frame well-formed when its delimiter stands in place, it has
its 147 bytes and its frame check is correct; a missing frame counts as malformed. On a LOCKED lane the
frame, or a substitute for a malformed one, arrives at the lane buffer, which fills, takes it, or drops 8
(R2, R3, R4, R6, R31, R32, R34, R35; that n does not count a drop while the run state is UNKNOWN is
assumption log 17). -/
def Obligations.LaneLockTable : Prop :=
  ∀ (s : State) (x : Rig) (delimited : Bool) (bytes : List Byte), s.part.atWork = true →
    let r := s.part.rig x
    let good := delimited = true ∧ bytes.length = 147 ∧
      byteSum (bytes.take 145) % 65536 = num2 (bytes.getD 145 0) (bytes.getD 146 0)
    ∃ t u, exec (.laneFrame x delimited bytes) s = .next t ∧ exec (.missingFrame x) s = .next u ∧
      (good → r.lock = .unlocked → r.goodRun < 63 → t.part.rig x = { r with goodRun := r.goodRun + 1 }) ∧
      (good → r.lock = .unlocked → r.goodRun = 63 →
        t.part.rig x = { r with
          goodRun := 64, lock := .locked, badRun := 0, bufState := .filling, frames := [] } ∧
        t.part.clock.timer x = some 0 ∧ t.part.clock.current = s.part.clock.current) ∧
      (good → r.lock = .locked → (t.part.rig x).lock = .locked ∧ (t.part.rig x).badRun = 0 ∧
        r.Takes s.part.align.settings.rate (frameCarried bytes) (t.part.rig x)) ∧
      (¬good → exec (.laneFrame x delimited bytes) s = exec (.missingFrame x) s) ∧
      (r.lock = .unlocked → u.part.rig x = { r with goodRun := 0 }) ∧
      (r.lock = .locked → r.badRun < 3 →
        (u.part.rig x).lock = .locked ∧ (u.part.rig x).badRun = r.badRun + 1 ∧
        r.Takes s.part.align.settings.rate substituteCarried (u.part.rig x)) ∧
      (r.lock = .locked → r.badRun = 3 →
        (u.part.rig x).lock = .unlocked ∧ (u.part.rig x).goodRun = 0)

/-- A loss event: LINK joins the fault set, position and run state are lost, the buffer empties, D is none
and the flag false, the restore timer stops, and a core that followed this lane goes with CLOCK_CHANGE to
the first usable source after it. The judge takes it at the same arrival: a SETTLED group whose source is
lost, in SHOW under AUTO, enters CONFIRMING or, with HOLD_OFF 0, is decided (R5, R26, R27, R30, R31, R42,
R108, R109, R113). -/
def Obligations.LossEventEffects : Prop :=
  ∀ (s : State) (x : Rig), s.part.atWork = true →
    let r := s.part.rig x
    r.lock = .locked → r.badRun = 3 →
    ∃ t, exec (.missingFrame x) s = .next t ∧
      (t.part.rig x).faults = { r.faults with link := true } ∧
      (t.part.rig x).posValid = false ∧ (t.part.rig x).run = none ∧
      (t.part.rig x).recovery = 0 ∧ (t.part.rig x).asm = .hunting ∧
      (t.part.rig x).badMarkers = r.badMarkers ∧ (t.part.rig x).slips = r.slips ∧
      (t.part.rig x).fLast = r.fLast ∧ (t.part.rig x).n = r.n ∧
      (t.part.rig x).bufState = .idle ∧ (t.part.rig x).frames = [] ∧
      (r.posValid = true → t.part.align.d = none ∧ t.part.align.aligned = false ∧
        t.part.align.pendingSkew = none) ∧
      t.part.align.s = s.part.align.s ∧ t.part.clock.timer x = none ∧
      t.part.clock.preference = s.part.clock.preference ∧
      (s.part.clock.current ≠ laneSource x → t.part.clock.current = s.part.clock.current) ∧
      (s.part.clock.current = laneSource x →
        t.part.clock.current =
          (s.part.clock.later.find? fun c => c != laneSource x && s.part.usable c).getD .int ∧
        (t.part.link.notices[(4 : Fin 8)]).map Notice.detail =
          some (.clockChange t.part.clock.current)) ∧
      ∀ g, (s.part.group g).state = .settled → (s.part.group g).source = x →
        (s.part.group g).returnExpired = false → s.part.hasMembers g = true →
        s.part.evidence g x = false →
        Part.SettledJudged { t.part with groups := s.part.groups } t.part g x

/-- What arrives on one lane sets the delta of each fault kind that joined or left, RUN's where the run
state changed, and ALIGN's on both rigs where the aligned flag changed; where a delta has gone from clear to
set RIG_CHANGE names the rigs with non-empty delta sets. It leaves the other Rig Port as it was but for its
ALIGN delta, and the map, the Watch, the panel, the outputs, the receiver and the configuration as they
were. What a core sample period brings, a good marker and a slip by repeat among it, sets the deltas of what
it changed on either rig and raises RIG_CHANGE so too; it sets no others where it takes no timeout and no
end of CLOCK and, for ALIGN, at most one rig's marker, with no skew due and no boundary taken, or a boundary
without a marker (R19, R20, R52). -/
def Obligations.LaneEventsSetDeltasAndLeaveTheRest : Prop :=
  (∀ (o : Orders) (s : State), s.part.atWork = true →
    ∃ t, exec (.coreSamplePeriod o) s = .next t ∧ s.part.TellsRigChange t.part ∧
      (∀ x,
        let r := s.part.rig x
        let q := t.part.rig x
        (∀ k, r.deltas.faults.has k = true ∨ r.faults.has k ≠ q.faults.has k →
          q.deltas.faults.has k = true) ∧
        (r.deltas.run = true ∨ r.run ≠ q.run → q.deltas.run = true) ∧
        (r.deltas.align = true ∨ s.part.align.aligned ≠ t.part.align.aligned →
          q.deltas.align = true) ∧
        (s.part.Punctual o x → r.SetsDeltas q)) ∧
      ((∀ x, s.part.Punctual o x) → (∃ x, ∀ f, ((s.part.rig x).assemble f).2 = none) →
        s.part.blockPhase < 48 ∨ s.part.handedOver = true ∨ s.part.align.pendingSkew = none →
        (s.part.BoundaryWithin o → ∀ x f, ((s.part.rig x).assemble f).2 = none) →
        s.part.SetsAlignDeltas t.part)) ∧
  ∀ (s : State) (x : Rig) (delimited : Bool) (bytes : List Byte), s.part.atWork = true →
    ∀ c ∈ [Instr.laneFrame x delimited bytes, .missingFrame x, .markerTimeout x, .clockFaultClear x],
      ∃ t, exec c s = .next t ∧
        (s.part.rig x).SetsDeltas (t.part.rig x) ∧ s.part.SetsAlignDeltas t.part ∧
        s.part.TellsRigChange t.part ∧
        (let r := s.part.rig (otherRig x)
         t.part.rig (otherRig x) = r ∨
           t.part.rig (otherRig x) = { r with deltas := { r.deltas with align := true } }) ∧
        t.part.map = s.part.map ∧ t.part.watch = s.part.watch ∧ t.part.panel = s.part.panel ∧
        t.part.outLane = s.part.outLane ∧ t.part.tcOut = s.part.tcOut ∧
        { t.part.link with notices := s.part.link.notices } = s.part.link ∧
        t.part.blockPhase = s.part.blockPhase ∧ t.part.config = s.part.config

/-- What falls due on a lane by the count of sample periods. A marker timeout raises STALL and takes the
position away. A completed restore timer makes its usable lane current where it stands before the current
source in PREFERENCE, with CLOCK_CHANGE. CLOCK leaves the fault set when the most recent slip is 480,000
sample periods old. A SETTLED group whose source times out is judged at that arrival, as at a loss. Every
core sample period advances the restore timers to 240,000 and the ages of the slips to 480,000, and a slip
by repeat moves the slip history on; where the newer age reaches 480,000 in it, CLOCK leaves in that period
if its orders have that first (R15, R24, R27, R28, R30, R35, R108, R109, R113; that a command ahead of its
time does nothing is the model's choice, assumption log 8, and so are the orders that a period offers, log
47; that a slip's age is 0 at the end of its own period is its deduction, log 36). -/
def Obligations.LaneTimersTakeEffectWhenDue : Prop :=
  (∀ (o : Orders) (s : State) (x : Rig), s.part.atWork = true →
    let r := s.part.rig x
    let repeats := r.bufState = .running ∧ r.repeatLeft = 0 ∧ r.frames = []
    let older := fun n => min 480000 (n + 1)
    ∃ t, exec (.coreSamplePeriod o) s = .next t ∧
      t.part.clock.timer x = (s.part.clock.timer x).map (fun n => min 240000 (n + 1)) ∧
      (¬repeats → (t.part.rig x).slipNewer = r.slipNewer.map older ∧
        (t.part.rig x).slipOlder = r.slipOlder.map older) ∧
      (repeats → (t.part.rig x).slipNewer = some 0 ∧
        (t.part.rig x).slipOlder = r.slipNewer.map older) ∧
      (¬repeats → r.faults.clock = true → r.slipNewer = some 479999 →
        (t.part.rig x).faults.clock = !o.clearFirst x)) ∧
  ∀ (s : State) (x : Rig), s.part.atWork = true →
    let r := s.part.rig x
    let due := 3 * s.part.align.settings.rate.spf + 7
    (r.run = some .playing → due ≤ r.n →
      ∃ t, exec (.markerTimeout x) s = .next t ∧
        (t.part.rig x).faults = { r.faults with stall := true } ∧
        (t.part.rig x).posValid = false ∧ (t.part.rig x).run = none ∧
        (t.part.rig x).seqBase = false ∧ (t.part.rig x).recovery = 0 ∧
        (t.part.rig x).deltas.run = true ∧ (t.part.rig x).asm = r.asm ∧ (t.part.rig x).n = r.n ∧
        t.part.clock = s.part.clock ∧ (r.posValid = true → t.part.align.d = none) ∧
        ∀ g, (s.part.group g).state = .settled → (s.part.group g).source = x →
          (s.part.group g).returnExpired = false → s.part.hasMembers g = true →
          s.part.evidence g x = false →
          Part.SettledJudged { t.part with groups := s.part.groups } t.part g x) ∧
    (r.run ≠ some .playing ∨ r.n < due → exec (.markerTimeout x) s = .next s) ∧
    (r.lock = .locked → s.part.clock.timer x = some 240000 → laneSource x ∈ s.part.clock.earlier →
      let p := { s.part with clock := { s.part.clock with current := laneSource x } }
      exec (.restoreTimerComplete x) s =
        .next { s with part := p.raise (.clockChange (laneSource x)) }) ∧
    (laneSource x ∉ s.part.clock.earlier ∨ s.part.clock.timer x ≠ some 240000 ∨ r.lock = .unlocked →
      exec (.restoreTimerComplete x) s = .next s) ∧
    (r.faults.clock = true → r.slipNewer = some 480000 →
      ∃ t, exec (.clockFaultClear x) s = .next t ∧
        (t.part.rig x).faults = { r.faults with clock := false } ∧
        (t.part.rig x).deltas.faults.clock = true ∧ (t.part.rig x).slips = r.slips ∧
        t.part.rig (otherRig x) = s.part.rig (otherRig x) ∧ t.part.align = s.part.align) ∧
    (r.faults.clock = false ∨ (∀ age, r.slipNewer = some age → age < 480000) →
      exec (.clockFaultClear x) s = .next s)

/-- RIG_STATUS returns the record in its layout and empties the delta set; RIG_CLEAR clears counters,
deltas, the slip history and every fault but LINK on an UNLOCKED lane, and keeps the tracker, after which
the judge looks again (R22, R23, R108, R182). -/
def Obligations.RigStatusAndRigClear : Prop :=
  ∀ (s : State) (x : Rig), s.hears →
    let r := s.part.rig x
    exec (.rigStatus .addressed [rigCode x]) s = .next (s.answered
      (s.part.setRig x { r with deltas := DeltaSet.empty }) 0x30 .ok
      ([rigCode x, u8 (bit (r.lock == .locked)), u8 r.faults.bitmap, u8 r.deltas.bitmap, runCode r.run,
        u8 (bit r.posValid)] ++ be24 r.fLast ++ be16 r.n ++
        [u8 r.recovery, u8 r.slips, u8 r.badMarkers])) ∧
    (let link := r.faults.link && r.lock == .unlocked
     let cleared := { r with
       deltas := DeltaSet.empty, slips := 0, badMarkers := 0, recovery := 0,
       slipNewer := none, slipOlder := none, faults := ⟨link, false, false, false, false⟩ }
     ∃ q, exec (.rigClear .addressed [rigCode x]) s = .next (s.answered q 0x31 .ok
        ([rigCode x, u8 (bit (r.lock == .locked)), u8 (bit link), 0, runCode r.run,
          u8 (bit r.posValid)] ++ be24 r.fLast ++ be16 r.n ++ [0, 0, 0])) ∧
      (s.part.setRig x cleared).Moves q) ∧
    (∀ b : Byte, 1 < b.toNat →
      exec (.rigStatus .addressed [b]) s = .next (s.refused 0x30 .badValue) ∧
      exec (.rigClear .addressed [b]) s = .next (s.refused 0x31 .badValue)) ∧
    ∀ body, body.length ≠ 1 → body.length ≤ 59 →
      exec (.rigStatus .addressed body) s = .next (s.refused 0x30 .badLength) ∧
      exec (.rigClear .addressed body) s = .next (s.refused 0x31 .badLength)

/-- From side byte to tracker. A hunting assembler collects from SYNC on, a collecting one joins each byte,
hands seven over as a marker, and breaks off at a substitute frame with a bad marker counted; a marker is
good by its seven bytes, and one that is not is counted bad. The jump and sequence test of a PLAYING marker:
an anchor without a sequence base, in-sequence at distance 0, a re-anchor within JUMP_TOL, a jump beyond;
the recovery rule clears STALL, JUMP and STOPPED, and LINK on a LOCKED lane. A STOPPED or LOCATING marker
raises STOPPED in a record's span before its last TAIL frames. A good marker sets its rig's current segment
and no other, removes a RETIRING record that no rig holds any longer, with GENERATION and RETIRED, sets the
deltas of what it changed with RIG_CHANGE, and is measured and taken by the generator. The core sample
period is where this happens: the frame that the core takes from a rig goes to that rig's assembler, and a
marker that it completes is judged in that period (R7, R8, R9, R11, R12, R16, R17, R18, R19, R20, R39, R58,
R71; the order in which the blocks take a marker, and that both rigs' frames are taken before either side
byte, are the model's deductions, assumption log 14 and 37; what is due and untaken as the period begins is
settled first, assumption log 9; and that a jump of a rig that carries JUMP already is no fault that joins,
log 52). -/
def Obligations.MarkersMoveTheTracker : Prop :=
  (∀ (f : Frame) (r : RigPort),
    (r.asm = .hunting → r.assemble f =
      (if f.side = 0xC3 then { r with asm := .collecting [] } else r, none)) ∧
    ∀ bs, r.asm = .collecting bs →
      (f.substitute = true → r.assemble f =
        ({ r with asm := .hunting, badMarkers := min 255 (r.badMarkers + 1) }, none)) ∧
      (f.substitute = false → bs.length < 6 →
        r.assemble f = ({ r with asm := .collecting (bs ++ [f.side]) }, none)) ∧
      (f.substitute = false → bs.length = 6 →
        r.assemble f = ({ r with asm := .hunting }, some (bs ++ [f.side])))) ∧
  (∀ (p : Part) (x : Rig) (hh mm ss ff rr tt check : Byte),
    let rate := p.align.settings.rate
    let bytes := [hh, mm, ss, ff, rr, tt, check]
    let good := fun t : Transport => hh.toNat ≤ 23 ∧ mm.toNat ≤ 59 ∧ ss.toNat ≤ 59 ∧
      ff.toNat < rate.fps ∧ rr = rate.code ∧ tt = t.code ∧ byteSum bytes % 256 = 0
    let f := (hh.toNat * 3600 + mm.toNat * 60 + ss.toNat) * rate.fps + ff.toNat
    (∀ t, good t → p.completeMarker x bytes = p.goodMarker x f t ∧
      (∃ a : Bool, (p.completeMarker x bytes).rig x =
        let q := (p.rig x).takeMarker p.align.settings (p.map.inBody f) f t
        { q with deltas := { q.deltas with align := q.deltas.align || a } })) ∧
    ((∀ t, ¬good t) → p.completeMarker x bytes =
      p.setRig x { p.rig x with badMarkers := min 255 ((p.rig x).badMarkers + 1) })) ∧
  (∀ (set : ShowSettings) (inBody : Bool) (f : Nat) (r : RigPort),
    let d := dayDistance set.rate f ((r.fLast + 1) % set.rate.dayFrames)
    let q := r.takeMarker set inBody f .playing
    (q.fLast = f ∧ q.n = 7 ∧ q.run = some .playing ∧ q.posValid = true ∧ q.seqBase = true) ∧
    (r.seqBase = false → q.recovery = 0 ∧ q.faults = r.faults) ∧
    (r.seqBase = true → d = 0 →
      q.recovery = min 255 (r.recovery + 1) ∧
      q.faults = if set.recovery ≤ q.recovery
        then ⟨r.faults.link && r.lock == .unlocked, false, false, false, r.faults.clock⟩ else r.faults) ∧
    (r.seqBase = true → 1 ≤ d → d ≤ set.jumpTol → q.recovery = 0 ∧ q.faults = r.faults) ∧
    (r.seqBase = true → 1 ≤ d → set.jumpTol < d →
      q.recovery = 0 ∧ q.faults = { r.faults with jump := true })) ∧
  (∀ (set : ShowSettings) (m : SegMap) (f : Nat) (t : Transport) (r : RigPort), t ≠ .playing →
    let q := r.takeMarker set (m.inBody f) f t
    q.fLast = f ∧ q.n = 7 ∧ q.run = some t ∧ q.posValid = true ∧ q.seqBase = false ∧ q.recovery = 0 ∧
    ((∃ e ∈ m.recs, e.seg.start ≤ f ∧ f < e.seg.start + e.seg.length ∧
        f + e.seg.tail < e.seg.start + e.seg.length) → q.faults = { r.faults with stopped := true }) ∧
    ((∀ e ∈ m.recs, e.seg.start ≤ f → f < e.seg.start + e.seg.length →
        e.seg.start + e.seg.length ≤ f + e.seg.tail) → q.faults = r.faults)) ∧
  (∀ (p : Part) (x : Rig) (f : Nat) (t : Transport), p.map.Sound →
    let m := p.map
    let q := p.goodMarker x f t
    let u := { p with rigA := q.rigA, rigB := q.rigB }
    let jumped := (q.rig x).faults.jump && !(p.rig x).faults.jump
    let leaves := fun r : SegRecord => r.retiring = true ∧ m.held x = some r.seg.id ∧
      q.map.held x ≠ some r.seg.id ∧ m.held (otherRig x) ≠ some r.seg.id
    m.Places q.map x f ∧ q.map.held (otherRig x) = m.held (otherRig x) ∧
    q.map.cursorIndex = m.cursorIndex ∧ q.map.cursorGen = m.cursorGen ∧
    ((∀ r ∈ m.recs, ¬leaves r) → q.map.recs = m.recs ∧ q.map.generation = m.generation ∧
      q.link.notices[(6 : Fin 8)] = p.link.notices[(6 : Fin 8)]) ∧
    (∀ r ∈ m.recs, leaves r → q.map.recs = m.recs.filter (fun e => e.seg.id != r.seg.id) ∧
      q.map.generation = (m.generation + 1) % 65536 ∧
      (q.link.notices[(6 : Fin 8)]).map Notice.detail = some (.retired r.seg.id)) ∧
    (∀ y, (p.rig y).SetsDeltas (q.rig y)) ∧ p.SetsAlignDeltas q ∧ p.TellsRigChange q ∧
    q.align = (u.measure x).align ∧ (p.mode ≠ .shows → q.tc = (u.tcMarker x t jumped).tc)) ∧
  ∀ (o : Orders) (s : State) (x : Rig), s.part.atWork = true →
    let r := s.part.rig x
    let copy : Frame := ⟨r.lastTaken.audio, 0, false⟩
    let f := if r.bufState = .running then (if r.repeatLeft = 0 then r.frames.headD copy else copy)
      else ⟨silentAudio, 0, false⟩
    let out := r.assemble f
    let alone := ∀ g, ((s.part.rig (otherRig x)).assemble g).2 = none
    ¬(r.bufState = .running ∧ r.repeatLeft = 0 ∧ r.frames = []) →
    ∃ t, exec (.coreSamplePeriod o) s = .next t ∧
      let q := t.part.rig x
      q.asm = out.1.asm ∧
      (out.2 = none → q.badMarkers = out.1.badMarkers ∧ q.fLast = r.fLast ∧
        (s.part.Punctual o x → q.run = r.run ∧ q.posValid = r.posValid ∧ q.seqBase = r.seqBase ∧
          q.recovery = r.recovery ∧ q.faults = r.faults)) ∧
      ∀ bytes, out.2 = some bytes →
        let p := s.part.setRig x out.1
        let w := p.completeMarker x bytes
        let v := w.rig x
        q.badMarkers = v.badMarkers ∧ q.fLast = v.fLast ∧
        (s.part.Punctual o x → q.run = v.run ∧ q.posValid = v.posValid ∧ q.seqBase = v.seqBase ∧
          q.recovery = v.recovery) ∧
        (alone → t.part.map = w.map ∧ (s.part.Punctual o x → q.faults = v.faults)) ∧
        ((judgeMarker p.align.settings.rate bytes).isSome = true → q.n = 7 ∧
          (alone → s.part.Punctual o x → s.part.Punctual o (otherRig x) →
            let u := ({ s.part with rigA := t.part.rigA, rigB := t.part.rigB }.measure x).align
            t.part.align.d = u.d ∧ t.part.align.stale = u.stale))

/-- What the part sends is good by the tests it applies to what it receives: a marker of the generator
names its frame and run state, and a frame of OUT_LANE carries its 48 samples with an idle side byte
(R2, R9, R149, R156, R182). -/
def Obligations.MarkersAndFramesSentAreGood : Prop :=
  (∀ (rate : Rate) (f : Nat) (t : Transport), f < rate.dayFrames →
    (markerBytes rate f t).length = 8 ∧ (markerBytes rate f t).head? = some 0xC3 ∧
    judgeMarker rate (markerBytes rate f t).tail = some (f, t)) ∧
  ∀ audio : List Sample, audio.length = 48 →
    judgeLaneFrame true (outFrameBytes audio) = some ⟨audio, 0x00, false⟩

/-- A Rig Port stays sound at every step: position-valid exactly while the run state is known, an IDLE empty
buffer and LINK while UNLOCKED, at most 16 frames held, a sequence base only under PLAYING, and slip ages of
at most 480,000, an older one never below the newer (R5, R10, R11, R14, R31, R35). -/
def Obligations.EveryStepKeepsTheRigPorts : Prop :=
  ∀ s t : State, s.part.rigA.Sound → s.part.rigB.Sound → step s = .next t →
    t.part.rigA.Sound ∧ t.part.rigB.Sound

/-! ### Sample clock -/

/-- CLOCK_SET stores three distinct sources and makes the first usable and restored source before the current
one current, with CLOCK_CHANGE where it changes; a list that matches the stored one changes nothing, and
anything else is refused (R29, R30). -/
def Obligations.ClockSetReordersThePreference : Prop :=
  (∀ (s : State) (a b c : Source), s.hears → a ≠ b → a ≠ c → b ≠ c →
    let p := s.part
    let now := if ⟨a, b, c⟩ = p.clock.preference then p.clock.current
      else (([a, b, c].takeWhile (· != p.clock.current)).find? fun x =>
        p.usable x && p.restored x).getD p.clock.current
    let p' := { p with clock := { p.clock with preference := ⟨a, b, c⟩, current := now } }
    exec (.clockSet .addressed [a.code, b.code, c.code]) s = .next (s.answered
      (if now = p.clock.current then p' else p'.raise (.clockChange now)) 0x34 .ok
      [a.code, b.code, c.code, now.code])) ∧
  (∀ (s : State) (x y z : Byte), s.hears →
    (2 < x.toNat ∨ 2 < y.toNat ∨ 2 < z.toNat ∨ x = y ∨ x = z ∨ y = z) →
    exec (.clockSet .addressed [x, y, z]) s = .next (s.refused 0x34 .badValue)) ∧
  ∀ (s : State) (body : List Byte), s.hears → body.length ≠ 3 → body.length ≤ 59 →
    exec (.clockSet .addressed body) s = .next (s.refused 0x34 .badLength)

/-- The current clock source stays usable and never stands after INT, and a lane's restore timer runs
exactly while the lane is LOCKED, at every step (R24, R26, R27). -/
def Obligations.EveryStepKeepsTheClockUsable : Prop :=
  ∀ s t : State, s.part.ClockSound → step s = .next t → t.part.ClockSound

/-! ### Show position and alignment -/

/-- SHOW_SET: the read, the write with its clamps, which has no effect where it matches what is stored, and
judges the aligned flag again where ALIGN_TOL changes, with the deltas of what it changed and RIG_CHANGE; a
changed rate's loss of both rigs' positions, of the offset and of the generator's timeline, which is then
pending in FOLLOW unless it is OFF, and the refusals in their order (R13, R19, R20, R37, R38, R42, R51, R52,
R165; that a write is matched with what is stored by its values after clamping, and that the pending
condition drops a marker still owed, are the model's deductions, assumption log 44 and 21; that ALIGN is
left clear where a new rate takes the flag that a new tolerance would have given is its choice, log 54). -/
def Obligations.ShowSetReadsAndWrites : Prop :=
  (∀ s : State, s.hears →
    exec (.showSet .addressed []) s = .next (s.answered s.part 0x38 .ok s.part.align.settings.body)) ∧
  (∀ (s : State) (rate : Rate) (tol jump rc : Byte), s.hears →
    (rate = s.part.align.settings.rate ∨ (s.part.mode = .standby ∧
      ∀ r ∈ s.part.map.recs, r.seg.start + r.seg.length ≤ rate.dayFrames)) →
    let new : ShowSettings := ⟨rate, min 48 tol.toNat, min 10 jump.toNat, max 1 (min 250 rc.toNat)⟩
    let result := if tol.toNat ≤ 48 ∧ jump.toNat ≤ 10 ∧ 1 ≤ rc.toNat ∧ rc.toNat ≤ 250
      then Result.ok else .adjusted
    ∃ q, exec (.showSet .addressed [u8 rate.fps, tol, jump, rc]) s =
        .next (s.answered q 0x38 result
          [u8 rate.fps, u8 new.alignTol, u8 new.jumpTol, u8 new.recovery]) ∧
      q.align.settings = new ∧ q.config = { s.part.config with shows := new } ∧
      q.align.s = s.part.align.s ∧ q.map = s.part.map ∧ q.clock = s.part.clock ∧
      q.watch = s.part.watch ∧ q.panel = s.part.panel ∧
      (new = s.part.align.settings → q = s.part) ∧
      (∀ x, (s.part.rig x).SetsDeltas (q.rig x)) ∧ s.part.SetsAlignDeltas q ∧ s.part.TellsRigChange q ∧
      (rate = s.part.align.settings.rate →
        q.align.aligned = (if new.alignTol = s.part.align.settings.alignTol then s.part.align.aligned
          else q.align.inStep) ∧
        { q.rigA with deltas := s.part.rigA.deltas } = s.part.rigA ∧
        { q.rigB with deltas := s.part.rigB.deltas } = s.part.rigB ∧ q.align.d = s.part.align.d) ∧
      (rate ≠ s.part.align.settings.rate →
        q.rigA.faults = { s.part.rigA.faults with stall := true } ∧ q.rigA.posValid = false ∧
        q.rigA.run = none ∧ q.rigA.asm = .hunting ∧
        q.rigB.faults = { s.part.rigB.faults with stall := true } ∧ q.rigB.posValid = false ∧
        q.rigB.run = none ∧ q.rigB.asm = .hunting ∧
        (let u := s.part.align
         s.part.rigA.posValid = true ∨ s.part.rigB.posValid = true ∨
           (u.d = none ∧ u.stale = false ∧ u.pendingSkew = none ∧ u.aligned = false) →
         q.align.d = none ∧ q.align.stale = false ∧ q.align.pendingSkew = none ∧
           q.align.aligned = false) ∧
        (let tc := s.part.tc
         (tc.state = .off → q.tc = tc) ∧
         (tc.state ≠ .off → q.tc = { tc with
           state := .follow, fOut := none, cadence := 0, freewheelCount := 0, owed := false })))) ∧
  (∀ (s : State) (rate : Rate) (tol jump rc : Byte), s.hears → rate ≠ s.part.align.settings.rate →
    (s.part.mode ≠ .standby → exec (.showSet .addressed [u8 rate.fps, tol, jump, rc]) s =
      .next (s.refused 0x38 .wrongMode)) ∧
    (s.part.mode = .standby →
      (∃ r ∈ s.part.map.recs, rate.dayFrames < r.seg.start + r.seg.length) →
      exec (.showSet .addressed [u8 rate.fps, tol, jump, rc]) s = .next (s.refused 0x38 .wrongState))) ∧
  (∀ (s : State) (b tol jump rc : Byte), s.hears → b ≠ 24 → b ≠ 25 → b ≠ 30 →
    exec (.showSet .addressed [b, tol, jump, rc]) s = .next (s.refused 0x38 .badValue)) ∧
  ∀ (s : State) (body : List Byte), s.hears → body.length ≠ 0 → body.length ≠ 4 → body.length ≤ 59 →
    exec (.showSet .addressed body) s = .next (s.refused 0x38 .badLength)

/-- The offset D is the shorter way round the day from A to B: in −L/2 to L/2 − 1 and congruent to the
difference of the positions, whatever they are (R40). A measurement stores it, fresh, and makes the pending
skew of it: none where S is D clamped to ±511, that value whole where every rig it affects is silent, else
one sample from S toward it; a skipped one marks D stale and leaves the rest (R39, R41, R46, R49). At a
block boundary S takes the pending skew, whole where every rig it affects is silent, else one sample toward
it, so that an audible rig's delay moves by one sample at most (R45, R47, R48; that the skew is applied
before the handover of the same completion, so that silence is judged by the weights and the mode before it,
is the model's deduction, assumption log 32). Where a rig's good marker and the boundary fall in one sample
period, the boundary taken first gives S the old pending skew, and the marker decides afresh from the new S
for the next boundary; the marker taken first replaces the pending skew, and the boundary applies the new
one at once, in that very period or as its row (R46; that the period's orders name the one or the other is
log 47). The aligned flag is judged at a measurement and at a boundary that changes S, and its change sets
ALIGN on both rigs with RIG_CHANGE (R20, R51, R52). -/
def Obligations.TheSkewFollowsTheOffset : Prop :=
  let affects := fun (s t : Int) (x : Rig) =>
    (x = .a ∧ (s < 0 ∨ t < 0)) ∨ (x = .b ∧ (0 < s ∨ 0 < t))
  let unheard := fun (p : Part) (t : Int) => ∀ x, affects p.align.s t x → p.silent x = true
  let toward := fun (s t : Int) => if s < t then s + 1 else if t < s then s - 1 else s
  (∀ a b : Nat,
    -2073600000 ≤ offsetOf a b ∧ offsetOf a b ≤ 2073599999 ∧
    (offsetOf a b - ((b : Int) - a)) % 4147200000 = 0) ∧
  (∀ (p : Part) (x : Rig) (a b : Nat),
    let rate := p.align.settings.rate
    let y := p.rig (otherRig x)
    let u := p.align
    let v := (p.measure x).align
    let measured := (p.rig x).run = some .playing ∧ y.posValid = true ∧ y.run = some .playing ∧
      y.n ≤ rate.spf + 7
    p.rigA.position rate = some a → p.rigB.position rate = some b →
    v.s = u.s ∧ p.SetsAlignDeltas (p.measure x) ∧ p.TellsRigChange (p.measure x) ∧
    (measured →
      let t := max (-511) (min 511 (offsetOf a b))
      v.d = some (offsetOf a b) ∧ v.stale = false ∧ v.aligned = v.inStep ∧
      (t = u.s → v.pendingSkew = none) ∧
      (t ≠ u.s → unheard p t → v.pendingSkew = some t) ∧
      (t ≠ u.s → ¬unheard p t → v.pendingSkew = some (toward u.s t))) ∧
    (¬measured → v = { u with stale := u.d.isSome })) ∧
  (∀ (o : Orders) (s : State) (x : Rig), s.part.atWork = true →
    let p := s.part
    let r := p.rig x
    let within := p.BoundaryWithin o
    let still := p.mode = .standby ∨ ((∀ g, (p.group g).state = .held) ∧ o.contactsTaken = [] ∧
      ∀ k, (p.panel.get k).change < 10)
    let arrives := ∃ bytes, (r.assemble r.nextFrame).2 = some bytes ∧
      (judgeMarker p.align.settings.rate bytes).isSome = true
    let turns := fun (pending : Option Int) (k' : Int) => (pending = none → k' = p.align.s) ∧
      ∀ k, pending = some k → (unheard p k → k' = k) ∧ (¬unheard p k → k' = toward p.align.s k)
    (∀ y, p.Punctual o y) → (∀ f, ((p.rig (otherRig x)).assemble f).2 = none) →
    ¬(r.bufState = .running ∧ r.repeatLeft = 0 ∧ r.frames = []) →
    p.blockPhase ≠ 48 → p.handedOver = false → still →
    ∃ t, exec (.coreSamplePeriod o) s = .next t ∧
      let v := t.part.align
      let decides := fun (u : AlignmentUnit) (pending : Option Int) =>
        let q := { p with rigA := t.part.rigA, rigB := t.part.rigB, align := u }
        (arrives → pending = (q.measure x).align.pendingSkew) ∧ (¬arrives → pending = u.pendingSkew)
      (¬within → v.s = p.align.s ∧ decides p.align v.pendingSkew) ∧
      (within → o.boundary = .first ∨ o.advanceLast = false → turns p.align.pendingSkew v.s ∧
        decides { p.align with s := v.s, pendingSkew := none } v.pendingSkew) ∧
      (within → o.boundary = .between → o.advanceLast = true → v.pendingSkew = none ∧
        ∀ k, decides p.align k → turns k v.s)) ∧
  ∀ (s : State) (a b c : Bool), s.part.atWork = true →
    ∃ t, exec (.blockCompletion a b c) s = .next t ∧
      (∀ x, (s.part.rig x).SetsDeltas (t.part.rig x)) ∧ s.part.SetsAlignDeltas t.part ∧
      s.part.TellsRigChange t.part ∧
      (∀ x, s.part.silent x = false →
        delayOf t.part.align.s x ≤ delayOf s.part.align.s x + 1 ∧
        delayOf s.part.align.s x ≤ delayOf t.part.align.s x + 1) ∧
      (∀ k, s.part.blockPhase = 48 → s.part.handedOver = false → s.part.align.pendingSkew = some k →
        t.part.align.pendingSkew = none ∧ t.part.align.d = s.part.align.d ∧
        (k ≠ s.part.align.s → t.part.align.aligned = t.part.align.inStep) ∧
        (unheard s.part k → t.part.align.s = k) ∧
        (¬unheard s.part k → t.part.align.s = toward s.part.align.s k)) ∧
      (s.part.align.pendingSkew = none → t.part.align = s.part.align)

/-- At every step the aligned flag stands exactly where R51's condition does, and S and the pending skew
stay within −511 to +511, so that at most one rig is delayed and by no more than 511 samples. That condition
is that D is a number of at most 511 either way and within ALIGN_TOL of S; the sign of S says which rig is
delayed, and a rig's delayed sample is the one written that many periods earlier (R43, R44, R51, R52). -/
def Obligations.EveryStepKeepsTheAlignment : Prop :=
  (∀ s t : State, s.part.AlignedSound → step s = .next t → t.part.AlignedSound) ∧
  (∀ s t : State, s.part.align.SkewSound → step s = .next t → t.part.align.SkewSound) ∧
  (∀ u : AlignmentUnit,
    (u.inStep = true ↔ ∃ d, u.d = some d ∧ -511 ≤ d ∧ d ≤ 511 ∧
      d - u.s ≤ u.settings.alignTol ∧ u.s - d ≤ u.settings.alignTol) ∧
    (0 < u.s → delayOf u.s .a = 0 ∧ (delayOf u.s .b : Int) = u.s) ∧
    (u.s = 0 → delayOf u.s .a = 0 ∧ delayOf u.s .b = 0) ∧
    (u.s < 0 → (delayOf u.s .a : Int) = -u.s ∧ delayOf u.s .b = 0) ∧
    ∀ (x : Rig) (c : Fin 48) (audio : List Sample),
      let written := if x = .a then u.lineA else u.lineB
      written[delayOf u.s x]? = some audio → u.delayed x c = audio.getD c 0) ∧
  ∀ u : AlignmentUnit, u.SkewSound →
    delayOf u.s .a ≤ 511 ∧ delayOf u.s .b ≤ 511 ∧ (delayOf u.s .a = 0 ∨ delayOf u.s .b = 0)

/-! ### The segment map -/

/-- A stored record's body is decoded to that very record, unclamped. A body of a wrong length is refused
with BAD_LENGTH, one of a right length whose values are out of place with BAD_VALUE, and any other is decoded
to the record that it carries, with its TAIL and its FADE clamped (R54, R63, R64, R182). -/
def Obligations.RecordBodiesRoundTrip : Prop :=
  (∀ (rate : Rate) (body : List Byte),
    (¬RecordShaped body → parseSegment rate body = .error .badLength) ∧
    (RecordShaped body → ¬RecordValued rate body → parseSegment rate body = .error .badValue) ∧
    (RecordShaped body → RecordValued rate body →
      ∃ r clamped, r.CarriedBy body clamped ∧ parseSegment rate body = .ok (r, clamped))) ∧
  ∀ (rate : Rate) (r : Segment),
    1 ≤ r.id → r.id ≤ 4095 → r.length ≤ 65535 → 1 ≤ r.length → r.start + r.length ≤ rate.dayFrames →
    r.tail ≤ r.length → r.tail ≤ 255 → (∀ f, r.fade = some f → f ≤ 4800) →
    r.expect.length ≤ 12 → (r.expect.map Prod.fst).Nodup →
    r.label.length ≤ 16 → (∀ c ∈ r.label, 0x20 ≤ c.toNat ∧ c.toNat ≤ 0x7E) →
    parseSegment rate r.body = .ok (r, false)

/-- SEG_INSERT adds the LIVE record that its body carries at its place, clamped with ADJUSTED where a number
is out of range, raises GENERATION, sets the current segments afresh and answers the stored record; the
refusals, of a length and of a value first, are made in their order (R58, R59, R63, R64, R65, R66, R71,
R78). -/
def Obligations.SegInsertAddsARecord : Prop :=
  ∀ (s : State) (body : List Byte), s.hears → body.length ≤ 59 →
    let m := s.part.map
    let retired := fun (m' : SegMap) (q : Part) =>
      if q.map.recs = m'.recs then q.link.notices[(6 : Fin 8)] = s.part.link.notices[(6 : Fin 8)]
      else ∃ e ∈ m'.recs, e ∉ q.map.recs ∧
        (q.link.notices[(6 : Fin 8)]).map Notice.detail = some (.retired e.seg.id)
    let rate := s.part.align.settings.rate
    (¬RecordShaped body →
      exec (.segInsert .addressed body) s = .next (s.refused 0x40 .badLength)) ∧
    (RecordShaped body → ¬RecordValued rate body →
      exec (.segInsert .addressed body) s = .next (s.refused 0x40 .badValue)) ∧
    ∀ r clamped, RecordShaped body → RecordValued rate body → r.CarriedBy body clamped →
      (160 ≤ m.recs.length →
        exec (.segInsert .addressed body) s = .next (s.refused 0x40 .mapFull)) ∧
      (m.recs.length < 160 → (∃ q ∈ m.recs, q.seg.id = r.id) →
        exec (.segInsert .addressed body) s = .next (s.refused 0x40 .duplicateId)) ∧
      (m.recs.length < 160 → (∀ q ∈ m.recs, q.seg.id ≠ r.id) →
        (∃ q ∈ m.recs, ∃ f, q.seg.contains f = true ∧ r.contains f = true) →
        exec (.segInsert .addressed body) s = .next (s.refused 0x40 .overlap)) ∧
      (m.Sound → m.recs.length < 160 → (∀ q ∈ m.recs, q.seg.id ≠ r.id) →
        (∀ q ∈ m.recs, q.seg.overlaps r = false) →
        let m' := { m with
          recs := insertByStart ⟨r, false⟩ m.recs, generation := (m.generation + 1) % 65536 }
        ∃ q, exec (.segInsert .addressed body) s =
            .next (s.answered q 0x40 (if clamped then .adjusted else .ok)
              (q.map.lookupForm ⟨r, false⟩)) ∧
          q.map.find r.id = some ⟨r, false⟩ ∧ q.map.wf = true ∧ q.config = s.part.config ∧
          m'.Settles q.map s.part ∧ retired m' q ∧
          Part.Moves { s.part with map := q.map, link := { s.part.link with
            notices := s.part.link.notices.set 6 q.link.notices[(6 : Fin 8)] } } q)

/-- SEG_AMEND replaces a LIVE record by the one that its body carries, clamped with ADJUSTED where a number is
out of range, keeps the map's conditions and sets the current segments afresh; a body of a wrong length
(BAD_LENGTH) or with a value out of place (BAD_VALUE), an absent record (NOT_FOUND), a RETIRING one
(WRONG_STATE) and a span that meets another record's (OVERLAP) change nothing (R58, R59, R63, R64, R67, R68,
R71, R78). -/
def Obligations.SegAmendReplacesARecord : Prop :=
  ∀ (s : State) (body : List Byte), s.hears → body.length ≤ 59 →
    let m := s.part.map
    let retired := fun (m' : SegMap) (q : Part) =>
      if q.map.recs = m'.recs then q.link.notices[(6 : Fin 8)] = s.part.link.notices[(6 : Fin 8)]
      else ∃ e ∈ m'.recs, e ∉ q.map.recs ∧
        (q.link.notices[(6 : Fin 8)]).map Notice.detail = some (.retired e.seg.id)
    let rate := s.part.align.settings.rate
    (¬RecordShaped body →
      exec (.segAmend .addressed body) s = .next (s.refused 0x41 .badLength)) ∧
    (RecordShaped body → ¬RecordValued rate body →
      exec (.segAmend .addressed body) s = .next (s.refused 0x41 .badValue)) ∧
    ∀ r clamped, RecordShaped body → RecordValued rate body → r.CarriedBy body clamped →
      (m.find r.id = none →
        exec (.segAmend .addressed body) s = .next (s.refused 0x41 .notFound)) ∧
      (∀ old, m.find r.id = some old → old.retiring = true →
        exec (.segAmend .addressed body) s = .next (s.refused 0x41 .wrongState)) ∧
      (∀ old, m.find r.id = some old → old.retiring = false →
        (∃ q ∈ m.recs, q.seg.id ≠ r.id ∧ ∃ f, q.seg.contains f = true ∧ r.contains f = true) →
        exec (.segAmend .addressed body) s = .next (s.refused 0x41 .overlap)) ∧
      (∀ old, m.find r.id = some old → old.retiring = false → m.Sound →
        (∀ q ∈ m.recs, q.seg.id ≠ r.id → q.seg.overlaps r = false) →
        let others := m.recs.filter fun q => q.seg.id != r.id
        let m' := { m with
          recs := insertByStart ⟨r, false⟩ others, generation := (m.generation + 1) % 65536 }
        ∃ q, exec (.segAmend .addressed body) s =
            .next (s.answered q 0x41 (if clamped then .adjusted else .ok)
              (q.map.lookupForm ⟨r, false⟩)) ∧
          q.map.find r.id = some ⟨r, false⟩ ∧ q.map.wf = true ∧ q.config = s.part.config ∧
          m'.Settles q.map s.part ∧ retired m' q ∧
          Part.Moves { s.part with map := q.map, link := { s.part.link with
            notices := s.part.link.notices.set 6 q.link.notices[(6 : Fin 8)] } } q)

/-- SEG_RETIRE removes a record no rig holds, makes a held one RETIRING, and leaves one already RETIRING
as it is (R69, R70). -/
def Obligations.SegRetireRemovesOrDefers : Prop :=
  ∀ (s : State) (b1 b0 : Byte), s.hears →
    let id := num2 b1 b0
    let m := s.part.map
    (id = 0 ∨ 4095 < id → exec (.segRetire .addressed [b1, b0]) s = .next (s.refused 0x42 .badValue)) ∧
    (1 ≤ id → id ≤ 4095 → m.find id = none →
      exec (.segRetire .addressed [b1, b0]) s = .next (s.refused 0x42 .notFound)) ∧
    (∀ r, 1 ≤ id → id ≤ 4095 → m.find id = some r →
      let g := (m.generation + 1) % 65536
      let without := { m with recs := m.recs.filter fun q => q.seg.id != id, generation := g }
      let marked := m.recs.map fun q => if q.seg.id = id then { q with retiring := true } else q
      let with' := { m with recs := marked, generation := g }
      (r.retiring = true → exec (.segRetire .addressed [b1, b0]) s =
        .next (s.answered s.part 0x42 .ok [2])) ∧
      (r.retiring = false → m.heldA ≠ some id → m.heldB ≠ some id →
        exec (.segRetire .addressed [b1, b0]) s =
          .next (s.answered { s.part with map := without } 0x42 .ok [0])) ∧
      (r.retiring = false → (m.heldA = some id ∨ m.heldB = some id) →
        exec (.segRetire .addressed [b1, b0]) s =
          .next (s.answered { s.part with map := with' } 0x42 .ok [1]))) ∧
    ∀ body, body.length ≠ 2 → body.length ≤ 59 →
      exec (.segRetire .addressed body) s = .next (s.refused 0x42 .badLength)

/-- SEG_FIND, SEG_LOCATE and MAP_STATUS look the map up and change nothing: SEG_LOCATE answers the record
that contains the frame, else the next one after it, else NOT_FOUND; a bad length, SEG_ID or frame is refused
(R73, R74, R75). -/
def Obligations.LookupsReadTheMap : Prop :=
  ∀ s : State, s.hears →
    let m := s.part.map
    (∀ body, body.length ≤ 59 →
      (body.length ≠ 2 → exec (.segFind .addressed body) s = .next (s.refused 0x43 .badLength)) ∧
      (body.length ≠ 3 → exec (.segLocate .addressed body) s = .next (s.refused 0x44 .badLength)) ∧
      (body.length ≠ 0 → exec (.mapStatus .addressed body) s = .next (s.refused 0x48 .badLength))) ∧
    (∀ b1 b0,
      let id := num2 b1 b0
      (id = 0 ∨ 4095 < id →
        exec (.segFind .addressed [b1, b0]) s = .next (s.refused 0x43 .badValue)) ∧
      (∀ r, 1 ≤ id → id ≤ 4095 → m.find id = some r →
        exec (.segFind .addressed [b1, b0]) s = .next (s.answered s.part 0x43 .ok (m.lookupForm r))) ∧
      (1 ≤ id → id ≤ 4095 → m.find id = none →
        exec (.segFind .addressed [b1, b0]) s = .next (s.refused 0x43 .notFound))) ∧
    (∀ b2 b1 b0,
      let f := num3 b2 b1 b0
      let day := s.part.align.settings.rate.dayFrames
      (day ≤ f → exec (.segLocate .addressed [b2, b1, b0]) s = .next (s.refused 0x44 .badValue)) ∧
      (∀ r ∈ m.recs, f < day → m.wf = true → r.seg.contains f = true →
        exec (.segLocate .addressed [b2, b1, b0]) s =
          .next (s.answered s.part 0x44 .ok (0 :: m.lookupForm r))) ∧
      (∀ r ∈ m.recs, f < day → m.wf = true → (∀ q ∈ m.recs, 1 ≤ q.seg.length) →
        (∀ q ∈ m.recs, q.seg.contains f = false) → f < r.seg.start →
        (∀ q ∈ m.recs, f < q.seg.start → r.seg.start ≤ q.seg.start) →
        exec (.segLocate .addressed [b2, b1, b0]) s =
          .next (s.answered s.part 0x44 .ok (1 :: m.lookupForm r))) ∧
      (f < day → (∀ q ∈ m.recs, q.seg.contains f = false ∧ q.seg.start ≤ f) →
        exec (.segLocate .addressed [b2, b1, b0]) s = .next (s.refused 0x44 .notFound))) ∧
    exec (.mapStatus .addressed []) s = .next (s.answered s.part 0x48 .ok
      ([u8 m.recs.length, u8 (m.recs.countP fun r => r.retiring)] ++ be16 m.generation ++
        [u8 m.cursorIndex] ++ be16 m.cursorGen ++ be16 (m.heldA.getD 0) ++ be16 (m.heldB.getD 0)))

/-- MAP_CLEAR empties the map in STANDBY alone; the cursor is placed, walks the records in order, ends,
and goes stale with a change of GENERATION; a bad length or index is refused (R76, R79, R80). -/
def Obligations.MapClearAndTheCursor : Prop :=
  ∀ s : State, s.hears →
    let m := s.part.map
    let g := (m.generation + 1) % 65536
    (∀ body, body.length ≤ 59 →
      (body.length ≠ 0 → exec (.mapClear .addressed body) s = .next (s.refused 0x45 .badLength)) ∧
      (body.length ≠ 1 → exec (.cursorSet .addressed body) s = .next (s.refused 0x46 .badLength)) ∧
      (body.length ≠ 0 → exec (.cursorNext .addressed body) s = .next (s.refused 0x47 .badLength))) ∧
    (s.part.mode ≠ .standby → exec (.mapClear .addressed []) s = .next (s.refused 0x45 .wrongMode)) ∧
    (s.part.mode = .standby →
      let m' := { m with recs := [], heldA := none, heldB := none, generation := g }
      ∃ q, exec (.mapClear .addressed []) s = .next (s.answered q 0x45 .ok (be16 g)) ∧
        Part.Moves { s.part with map := m' } q) ∧
    (∀ b : Byte, b.toNat ≤ 159 →
      let m' := { m with cursorIndex := b.toNat, cursorGen := m.generation }
      exec (.cursorSet .addressed [b]) s = .next (s.answered
        { s.part with map := m' } 0x46 .ok ([b] ++ be16 m.generation ++ [u8 m.recs.length]))) ∧
    (∀ b : Byte, 159 < b.toNat →
      exec (.cursorSet .addressed [b]) s = .next (s.refused 0x46 .badValue)) ∧
    (m.cursorGen ≠ m.generation → exec (.cursorNext .addressed []) s =
      .next (s.answered s.part 0x47 .staleCursor (be16 m.generation))) ∧
    (m.cursorGen = m.generation → m.recs.length ≤ m.cursorIndex →
      exec (.cursorNext .addressed []) s =
        .next (s.answered s.part 0x47 .endOfWalk (be16 m.generation))) ∧
    ∀ r, m.cursorGen = m.generation → m.recs[m.cursorIndex]? = some r →
      let m' := { m with cursorIndex := m.cursorIndex + 1 }
      exec (.cursorNext .addressed []) s = .next (s.answered
        { s.part with map := m' } 0x47 .ok (m.lookupForm r ++ be16 m.generation))

/-- A step keeps the map's conditions: ascending spans that share no frame, no SEG_ID twice, at most 160
records, current segments that are records of the map, and RETIRING records only while held (R56, R70,
R71). A load brings what a save captured, so stored contents carry the same conditions. -/
def Obligations.EveryStepKeepsTheMap : Prop :=
  ∀ s t : State, s.part.MapSound → step s = .next t → t.part.MapSound

/-! ### Activity Watch -/

/-- A block completion that is due judges every group with members: each quiet run, the group peaks, the
mismatch flags, which never stand together, and the both-quiet onset with its notice. Its handover then
reaches every group: a CONFIRMING one counts a block or, its evidence gone, settles with a glitch; a SETTLED
one with evidence enters CONFIRMING or, with HOLD_OFF 0, is decided, and without evidence counts its return
timer; HELD stays, STRANDED leaves or stays, a fade runs on unless it is reversed; an unpinned fade in SHOW
under AUTO is reversed where evidence stands against DEST and SOURCE is ready, with MOVED; REPORTED follows
the barred condition, and its rise raises WOULD_MOVE. The block count starts again at 0 and the panel reads
its three contacts. A handover that is the last of some hold-off or return delay may come first, as that
row, and the completion then makes the rest alone (R82, R83, R84, R88, R91, R92, R109, R110, R111, R112,
R113, R114, R117, R120, R126, R135, R146). The order inside a completion, the handover made ahead, and a
change count that stands at 10 until the closure's row are the model's choices (assumption log 32, 11, 34),
and so are a return timer that counts the block at whose handover its conditions come to hold, its EXPIRED
condition as the outcome of that comparison, a SETTLED group with evidence that enters CONFIRMING though its
return is due, and a glitch counted where evidence ceases under MANUAL_ONLY (assumption log 18, 19, 49, 30).
With no pending skew the terms are those of the state before. A completion that is to take contacts first
takes them once read, and makes its handover on what they leave (log 56). A boundary taken within its 48th
sample period (log 47), where nothing else of that period bears on it, does what that period and then the
completion's row, with the contacts' rows, do. -/
def Obligations.BlockCompletionJudgesTheBlock : Prop :=
  let reads := fun (p q : Part) (a b d : Bool) =>
    ∀ k : Contact,
      let was := p.panel.get k
      let level := match k with
        | .contactA => a
        | .contactB => b
        | .contactFree => d
      q.panel.get k = { was with
        rawClosed := level, change := if level = was.closed then 0 else min 10 (was.change + 1) }
  (∀ (c : Instr) (s : State) (a b d : Bool), s.part.atWork = true → s.part.blockPhase = 48 →
    s.part.handedOver = false → s.part.align.pendingSkew = none →
    c = .blockCompletion a b d ∨ (c = .holdOffExpiry ∧ s.part.holdOffDue = true) ∨
      (c = .returnTimerExpiry ∧ s.part.returnDue = true) →
    ∃ t, exec c s = .next t ∧ s.part.HandsOverTo t.part ∧
      (c = .blockCompletion a b d →
        t.part.blockPhase = 0 ∧ t.part.handedOver = false ∧ reads s.part t.part a b d) ∧
      (c ≠ .blockCompletion a b d →
        t.part.blockPhase = 48 ∧ t.part.handedOver = true ∧ t.part.panel = s.part.panel) ∧
      t.part.watch.peaksA = zeroPeaks ∧ t.part.watch.peaksB = zeroPeaks ∧
      ∀ g : Fin 12,
        let p := { s.part with watch := t.part.watch }
        let r := s.part.group g
        let q := t.part.group g
        let set := r.settings
        let other := otherRig r.source
        let auto := p.mode = .shows ∧ p.policy g = .auto
        let runs := r.source ≠ set.home ∧ set.returnMode = .autoInGap ∧ p.mode = .shows ∧
          p.hasMembers g = true ∧ p.ready g set.home = true
        let blocks := min 600000 (r.returnCount + 1)
        (p.hasMembers g = true →
          let w := s.part.watch.groups[g]
          let v := t.part.watch.groups[g]
          let e := s.part.expectation g
          v.peakA = s.part.groupPeak g s.part.watch.peaksA ∧
          v.peakB = s.part.groupPeak g s.part.watch.peaksB ∧
          v.runA = (if set.threshold ≤ v.peakA then 0 else min 65535 (w.runA + 1)) ∧
          v.runB = (if set.threshold ≤ v.peakB then 0 else min 65535 (w.runB + 1)) ∧
          (v.mismatchA = true ↔ e ≠ .quiet ∧ set.quietWindow ≤ v.runA ∧ v.runB < set.quietWindow) ∧
          (v.mismatchB = true ↔ e ≠ .quiet ∧ set.quietWindow ≤ v.runB ∧ v.runA < set.quietWindow) ∧
          ¬(v.mismatchA = true ∧ v.mismatchB = true) ∧
          (v.armed = true ↔ v.runA < set.quietWindow ∨ v.runB < set.quietWindow ∨
            (w.armed = true ∧ e ≠ .active)) ∧
          (s.part.mode ≠ .standby → w.armed = true → e = .active → set.quietWindow ≤ v.runA →
            set.quietWindow ≤ v.runB → t.part.link.notices[(5 : Fin 8)].isSome = true)) ∧
        (∀ n, r.state = .confirming n → auto → p.evidence g r.source = true → 2 ≤ n →
          q = { r with
            state := .confirming (n - 1), returnCount := 0, returnExpired := false, reported := false }) ∧
        (∀ n, r.state = .confirming n ∨ r.state = .stranded → p.mode = .shows → p.hasMembers g = true →
          p.evidence g r.source = false → r.returnCount = 0 → 1 ≤ set.returnDelay →
          q.state = .settled ∧ q.source = r.source ∧ q.glitches =
            if r.state = .confirming n then min 255 (r.glitches + 1) else r.glitches) ∧
        (r.state = .settled → auto → p.evidence g r.source = true →
          (set.holdOff ≠ 0 → q = { r with
            state := .confirming set.holdOff, returnCount := 0, returnExpired := false,
            reported := false }) ∧
          (set.holdOff = 0 → p.ready g other = false → q.state = .stranded ∧ q.source = r.source) ∧
          (set.holdOff = 0 → p.ready g other = true → q.refRig = other)) ∧
        (r.state = .settled → p.evidence g r.source = false →
          (¬runs → q = { r with returnCount := 0, returnExpired := false, reported := q.reported }) ∧
          (runs → blocks < set.returnDelay * 1000 ∨ p.map.inGap r.source = false → q = { r with
            returnCount := blocks, returnExpired := decide (set.returnDelay * 1000 ≤ blocks),
            reported := q.reported })) ∧
        (r.state = .held →
          q = { r with returnCount := 0, returnExpired := false, reported := q.reported }) ∧
        (r.state = .stranded → auto → p.evidence g r.source = true →
          (p.ready g other = false → q.state = .stranded ∧ q.source = r.source) ∧
          (p.ready g other = true → q.refRig = other)) ∧
        (∀ m, r.state = .fading m →
          r.pinned = true ∨ ¬auto ∨ p.evidence g other = false ∨ p.ready g r.source = false →
          q.state = r.state ∧ q.source = r.source ∧ q.pinned = r.pinned) ∧
        (∀ m, r.state = .fading m → r.pinned = false → auto → p.evidence g other = true →
          p.ready g r.source = true → p.Reverses t.part g false m ∧
          ∃ k, p.cause g other = some k ∧ ((∀ h, g < h → (s.part.group h).state = .held) →
            (t.part.link.notices[(1 : Fin 8)]).map Notice.detail =
              some (.moved g other r.source k))) ∧
        (q.reported = true ↔ p.mode ≠ .standby ∧ p.evidence g q.refRig = true ∧
          (p.mode = .rehearsal ∨ t.part.policy g = .manualOnly ∨ q.state = .held ∨
            (q.isFading = true ∧ q.pinned = true))) ∧
        (r.reported = false → q.reported = true → t.part.link.notices[(3 : Fin 8)].isSome = true)) ∧
  (∀ (s : State) (a b d : Bool), s.part.atWork = true → s.part.blockPhase = 48 →
    s.part.handedOver = true →
    ∃ t, exec (.blockCompletion a b d) s = .next t ∧ reads s.part t.part a b d ∧
      t.part = { s.part with blockPhase := 0, handedOver := false, panel := t.part.panel }) ∧
  (∀ (p : Part) (first : List Contact), p.blockPhase = 48 →
    let q := { p with panel := p.panel.read }.takeContacts first
    p.blockCompletion first = { q.blockCompletion [] with panel := q.panel }) ∧
  ∀ (o : Orders) (s : State), s.part.atWork = true → s.part.BoundaryWithin o →
    (∀ x, s.part.Punctual o x) → (∀ x f, ((s.part.rig x).assemble f).2 = none) →
    (s.part.mode = .standby ∧ ∀ g, (s.part.group g).isFading = false) ∨
      ((∀ g, (s.part.group g).state = .held) ∧ o.contactsTaken = [] ∧
        ∀ k, (s.part.panel.get k).change < 10) →
    let k := s.part.panel
    let after := .coreSamplePeriod { o with boundary := .last, contactsFirst := [], contacts := [] } ::
      .blockCompletion k.a.rawClosed k.b.rawClosed k.free.rawClosed :: contactRows o.contactsTaken
    exec (.coreSamplePeriod o) s = State.taking after s

/-- WATCH_STATUS and GROUP_STATUS report a group in their layouts and change nothing (R94, R124, R182). What
they show of its terms and of the rigs is judged so: evidence stands against a rig where the group has members
and the rig a fault or a mismatch, and its cause is the first of LINK, STALL, JUMP, STOPPED, CLOCK and QUIET
(R106); a rig is ready that is free of faults, PLAYING, in step and without a mismatch (R107); expectation,
policy and fade length are those of the record that the reference rig, or the rig moved to, holds, and in a
gap the group's own and AUTO (R55, R61, R87, R143). -/
def Obligations.GroupReportsReadTheGroup : Prop :=
  (∀ (p : Part) (g : Fin 12) (x : Rig),
    let members := ∃ c : Fin 48, p.members[c] = g
    let f := (p.rig x).faults
    let w := p.watch.groups[g]
    let mismatch := match x with
      | .a => w.mismatchA
      | .b => w.mismatchB
    let set := (p.group g).settings
    (p.evidence g x = true ↔ members ∧ (f.link = true ∨ f.stall = true ∨ f.jump = true ∨
      f.stopped = true ∨ f.clock = true ∨ mismatch = true)) ∧
    (p.evidence g x = false → p.cause g x = none) ∧
    (members →
      (f.link = true → p.cause g x = some .link) ∧
      (f.link = false → f.stall = true → p.cause g x = some .stall) ∧
      (f.link = false → f.stall = false → f.jump = true → p.cause g x = some .jump) ∧
      (f.link = false → f.stall = false → f.jump = false → f.stopped = true →
        p.cause g x = some .stopped) ∧
      (f.link = false → f.stall = false → f.jump = false → f.stopped = false → f.clock = true →
        p.cause g x = some .clock) ∧
      (f = ⟨false, false, false, false, false⟩ → mismatch = true → p.cause g x = some .quiet)) ∧
    (p.ready g x = true ↔ f = ⟨false, false, false, false, false⟩ ∧ (p.rig x).run = some .playing ∧
      (p.align.aligned = true ∨ (p.rig (otherRig x)).posValid = false) ∧ mismatch = false) ∧
    (p.map.held (p.group g).refRig = none →
      p.expectation g = set.defaultExpect ∧ p.policy g = .auto) ∧
    (∀ id r, p.map.held (p.group g).refRig = some id → p.map.find id = some r →
      p.policy g = r.seg.policy ∧
      ((∀ e, (g, e) ∉ r.seg.expect) → p.expectation g = set.defaultExpect) ∧
      ∀ e, (g, e) ∈ r.seg.expect → (r.seg.expect.map Prod.fst).Nodup → p.expectation g = e) ∧
    (p.map.held x = none → p.fadeLength g x = set.fadeLen) ∧
    ∀ id r, p.map.held x = some id → p.map.find id = some r →
      p.fadeLength g x = r.seg.fade.getD set.fadeLen) ∧
  ∀ (s : State) (g : Fin 12), s.hears →
    let w := s.part.watch.groups[g]
    let r := s.part.group g
    exec (.watchStatus .addressed [u8 g]) s = .next (s.answered s.part 0x50 .ok
      ([u8 g, u8 (s.part.memberCount g), (s.part.expectation g).code] ++ be16 r.settings.quietWindow ++
        be16 w.runA ++ be16 w.runB ++ be24 w.peakA ++ be24 w.peakB ++
        [u8 (bit w.mismatchA + 2 * bit w.mismatchB + 4 * bit w.armed)])) ∧
    (∃ members, members.length = 6 ∧
      (∀ c : Fin 48, (members.getD (c / 8) 0).getLsbD (c % 8) = s.part.inGroup g c) ∧
      exec (.groupStatus .addressed [u8 g]) s = .next (s.answered s.part 0x5A .ok
        ([u8 g] ++ members ++
          [r.state.code, rigCode r.source,
            u8 (bit r.pinned + 2 * bit r.reported + 4 * bit r.returnExpired +
              8 * bit (s.part.ready g (otherRig r.refRig)))] ++
          (match r.state with
            | .fading m => rigCode (otherRig r.source) :: be16 m.weight ++ be16 m.step ++ be16 m.length
            | _ => [0xFF, 0, 0, 0, 0, 0, 0]) ++
          (match r.state with
            | .confirming n => be16 n
            | _ => [0, 0]) ++
          be24 r.returnCount ++ [u8 r.glitches, causeCode (s.part.cause g r.refRig)]))) ∧
    (∀ b : Byte, 11 < b.toNat →
      exec (.watchStatus .addressed [b]) s = .next (s.refused 0x50 .badValue) ∧
      exec (.groupStatus .addressed [b]) s = .next (s.refused 0x5A .badValue)) ∧
    ∀ body, body.length ≠ 1 → body.length ≤ 59 →
      exec (.watchStatus .addressed body) s = .next (s.refused 0x50 .badLength) ∧
      exec (.groupStatus .addressed body) s = .next (s.refused 0x5A .badLength)

/-! ### Groups -/

/-- GROUP_SET: the read; a write, which clamps each number to its range with ADJUSTED, stores and reads back
what it clamped, after which the judge looks again, and which has no effect where it matches what is stored;
and the refusals of a length, a group and a code that names no value (R97, R98, R108, R182). -/
def Obligations.GroupSetStoresWhatItReadsBack : Prop :=
  (∀ (s : State) (g : Fin 12), s.hears →
    exec (.groupSet .addressed [u8 g]) s =
      .next (s.answered s.part 0x58 .ok (u8 g :: (s.part.group g).settings.body))) ∧
  (∀ (s : State) (g : Fin 12) (sent : GroupSettings), s.hears →
    sent.fadeLen < 65536 → sent.holdOff < 65536 → sent.threshold < 16777216 →
    sent.quietWindow < 65536 → sent.returnDelay < 65536 →
    let stored := { sent with
      fadeLen := min 4800 sent.fadeLen, holdOff := min 500 sent.holdOff,
      threshold := max 1 (min 8388608 sent.threshold),
      quietWindow := max 50 (min 60000 sent.quietWindow),
      returnDelay := max 1 (min 600 sent.returnDelay) }
    ∃ q, exec (.groupSet .addressed (u8 g :: sent.body)) s =
        .next (s.answered q 0x58 (if stored = sent then .ok else .adjusted) (u8 g :: stored.body)) ∧
      (q.group g).settings = stored ∧ (stored = (s.part.group g).settings → q = s.part) ∧
      (s.part.setGroup g { s.part.group g with settings := stored }).Moves q) ∧
  (∀ (s : State) (b : Byte), s.hears → 11 < b.toNat →
    exec (.groupSet .addressed [b]) s = .next (s.refused 0x58 .badValue)) ∧
  (∀ (s : State) (b home f1 f0 h1 h0 t2 t1 t0 q1 q0 expect back d1 d0 panel : Byte), s.hears →
    11 < b.toNat ∨ 1 < home.toNat ∨ expect.toNat = 0 ∨ 3 < expect.toNat ∨ 1 < back.toNat ∨
      1 < panel.toNat →
    exec (.groupSet .addressed
      [b, home, f1, f0, h1, h0, t2, t1, t0, q1, q0, expect, back, d1, d0, panel]) s =
      .next (s.refused 0x58 .badValue)) ∧
  ∀ (s : State) (body : List Byte), s.hears → body.length ≠ 1 → body.length ≠ 16 → body.length ≤ 59 →
    exec (.groupSet .addressed body) s = .next (s.refused 0x58 .badLength)

/-- An accepted GROUP_ASSIGN makes exactly the listed channels members of the target and restarts the
quiet runs of the target and of every group that lost a channel; it is refused on a FADING group among
them, and outside STANDBY where their sources differ. A bad length, a group or a channel that is none, and a
channel listed twice are refused (R86, R100, R101). -/
def Obligations.GroupAssignMovesChannels : Prop :=
  (∀ (s : State) (body : List Byte), s.hears → body.length ≤ 59 →
    body.length < 2 ∨ 49 < body.length →
    exec (.groupAssign .addressed body) s = .next (s.refused 0x59 .badLength)) ∧
  (∀ (s : State) (b : Byte) (cs : List Byte), s.hears → 1 ≤ cs.length → cs.length ≤ 48 →
    11 < b.toNat ∨ (∃ c ∈ cs, 47 < c.toNat) ∨ ¬cs.Nodup →
    exec (.groupAssign .addressed (b :: cs)) s = .next (s.refused 0x59 .badValue)) ∧
  ∀ (s : State) (g : Fin 12) (cs : List (Fin 48)), s.hears → 1 ≤ cs.length → cs.Nodup →
    let concerned := fun h : Fin 12 => h = g ∨ ∃ c ∈ cs, s.part.members[c] = h
    let body := u8 g :: cs.map fun c => u8 c
    ((∃ h, concerned h ∧ (s.part.group h).isFading = true) →
      exec (.groupAssign .addressed body) s = .next (s.refused 0x59 .groupFading)) ∧
    ((∀ h, concerned h → (s.part.group h).isFading = false) →
      s.part.mode ≠ .standby →
      (∃ h, concerned h ∧ (s.part.group h).source ≠ (s.part.group g).source) →
      exec (.groupAssign .addressed body) s = .next (s.refused 0x59 .wrongState)) ∧
    ((∀ h, concerned h → (s.part.group h).isFading = false) →
      (s.part.mode = .standby ∨
        ∀ h, concerned h → (s.part.group h).source = (s.part.group g).source) →
      ∃ q, exec (.groupAssign .addressed body) s =
          .next (s.answered q 0x59 .ok [u8 g, u8 (q.memberCount g)]) ∧
        (∀ c, q.members[c] = if c ∈ cs then g else s.part.members[c]) ∧
        (∀ h, (concerned h → q.watch.groups[h] = ⟨0, 0, 0, 0, false, false, true⟩) ∧
          (¬concerned h → q.watch.groups[h] = s.part.watch.groups[h])) ∧
        q.watch.peaksA = s.part.watch.peaksA ∧ q.watch.peaksB = s.part.watch.peaksB ∧
        Part.Moves { s.part with members := q.members, watch := q.watch } q)

/-- MODE_SET sets the mode, and one that names the mode in force changes nothing. Entry into STANDBY lands
every fade, settles CONFIRMING and STRANDED and stops every return timer, and nothing else moves; entry
into REHEARSAL from SHOW settles CONFIRMING and STRANDED and leaves HELD and fades. At entry into REHEARSAL
or SHOW the judge looks at once: a SETTLED group with evidence, in SHOW under AUTO, enters CONFIRMING or, with
HOLD_OFF 0, is decided at the MODE_SET, one with barred evidence is reported, and an unpinned fade is reversed
or runs on (R102, R103, R104, R108, R109, R110, R113, R116, R117). -/
def Obligations.ModeSetAndEntryIntoStandby : Prop :=
  (∀ (s : State) (m : Mode), s.hears →
    ∃ q, exec (.modeSet .addressed [m.code]) s = .next (s.answered q 0x60 .ok [m.code]) ∧
      (s.part.mode = m → q = s.part) ∧ Part.Moves { s.part with mode := m } q ∧
      (m = .standby → s.part.mode ≠ .standby → q = { s.part with mode := m, groups := q.groups } ∧
        ∀ g, let r := s.part.group g
          let state := match r.state with
            | .settled | .confirming _ | .stranded => GroupState.settled
            | .held => .held
            | .fading _ => if r.pinned then .held else .settled
          q.group g = { r with
            state := state, source := r.refRig,
            returnCount := 0, returnExpired := false, reported := false }) ∧
      (m = .rehearsal → s.part.mode = .shows → q.store = s.part.store ∧
        ∀ g, (q.group g).source = (s.part.group g).source ∧
          (q.group g).pinned = (s.part.group g).pinned ∧ (q.group g).returnCount = 0 ∧
          (q.group g).state = match (s.part.group g).state with
            | .settled | .confirming _ | .stranded => .settled
            | .held => .held
            | .fading m => .fading m) ∧
      (m ≠ .standby → s.part.mode ≠ m → ∀ g,
        let p := { s.part with mode := m }
        let r := s.part.group g
        (r.state = .settled → r.returnExpired = false → p.SettledJudged q g r.source) ∧
        ∀ ramp, r.state = .fading ramp → r.pinned = false → p.FadeJudged q g ramp)) ∧
  (∀ (s : State) (b : Byte), s.hears → 2 < b.toNat →
    exec (.modeSet .addressed [b]) s = .next (s.refused 0x60 .badValue)) ∧
  ∀ (s : State) (body : List Byte), s.hears → body.length ≠ 1 → body.length ≤ 59 →
    exec (.modeSet .addressed body) s = .next (s.refused 0x60 .badLength)

/-- GROUP_HOME by its table, from the refusals of a length and a group on. A group HELD at its HOME is
released and judged at once: without evidence it is SETTLED there, and with evidence it stays, enters
CONFIRMING or is decided, as the mode and its terms have it (R108, R109, R122). -/
def Obligations.GroupHomeTable : Prop :=
  (∀ (s : State) (body : List Byte), s.hears → body.length ≠ 1 → body.length ≤ 59 →
    exec (.groupHome .addressed body) s = .next (s.refused 0x5C .badLength)) ∧
  (∀ (s : State) (b : Byte), s.hears → 11 < b.toNat →
    exec (.groupHome .addressed [b]) s = .next (s.refused 0x5C .badValue)) ∧
  ∀ (s : State) (g : Fin 12), s.hears →
    let r := s.part.group g
    let home := r.settings.home
    (r.isFading = true →
      exec (.groupHome .addressed [u8 g]) s = .next (s.refused 0x5C .groupFading)) ∧
    (r.isFading = false → r.source = home → r.state ≠ .held →
      exec (.groupHome .addressed [u8 g]) s =
        .next (s.answered s.part 0x5C .ok [u8 g, r.state.code, rigCode home])) ∧
    (r.source = home → r.state = .held →
      ∃ q, exec (.groupHome .addressed [u8 g]) s = .next (s.answered q 0x5C .ok
          [u8 g, (q.group g).state.code, rigCode (q.group g).source]) ∧
        s.part.Moves q ∧ (q.group g).pinned = false ∧ s.part.SettledJudged q g home) ∧
    (r.isFading = false → r.source ≠ home → s.part.mode ≠ .standby → s.part.ready g home = false →
      exec (.groupHome .addressed [u8 g]) s = .next (s.refused 0x5C .notReady)) ∧
    (r.isFading = false → r.source ≠ home → s.part.mode = .standby →
      ∃ q, exec (.groupHome .addressed [u8 g]) s =
          .next (s.answered q 0x5C .ok [u8 g, 0, rigCode home]) ∧
        s.part.Moves q ∧ (q.group g).state = .settled ∧ (q.group g).source = home ∧
        (q.group g).pinned = false ∧ q.store = s.part.store ∧
        q.link.notices = s.part.link.notices) ∧
    (r.isFading = false → r.source ≠ home → s.part.mode ≠ .standby → s.part.ready g home = true →
      ∃ q, exec (.groupHome .addressed [u8 g]) s = .next (s.answered q 0x5C .ok
          [u8 g, (q.group g).state.code, rigCode (q.group g).source]) ∧
        s.part.Moves q ∧ (q.group g).refRig = home ∧ (q.group g).pinned = false ∧
        q.store = s.part.abandonStore.store ∧ q.link.notices[(1 : Fin 8)].isSome = true ∧
        (s.part.fadeLength g home = 0 → (q.group g).state = .settled) ∧
        (s.part.fadeLength g home ≠ 0 → ∃ age, (q.group g).state =
          .fading ⟨0, s.part.fadeLength g home, 0, age⟩))

/-- Every pin leaves its group PINNED, HELD on the rig or fading toward it, over the length read at the pin,
or held at once for a length of 0; evidence that stands against the rig is reported at the pin itself,
with a WOULD_MOVE unless it had been reported against that very rig; a pin that needs a ramp raises MOVED
with cause PIN and abandons the work in flight, a fade away from the rig is turned back from the weight
that the rig has, and a pin that needs no ramp raises no MOVED and abandons nothing; in STANDBY the group
is HELD there at once with no notice and the store untouched (R110, R126, R127, R129, R130, R131, R132,
R141, R143, R146). The number that the ramp carries is the model's own (assumption log 10). -/
def Obligations.GroupPinHoldsOrFades : Prop :=
  (∀ (s : State) (g : Fin 12) (x : Rig), s.hears →
    ∃ q, exec (.groupPin .addressed [u8 g, rigCode x]) s = .next (s.answered q 0x5D .ok
        ([u8 g, (q.group g).state.code, rigCode (q.group g).source, 1] ++ (q.group g).destBytes)) ∧
      s.part.Moves q ∧ (q.group g).pinned = true ∧ (q.group g).refRig = x ∧
      ((q.group g).state = .held ∨ (q.group g).isFading = true) ∧
      (s.part.mode = .standby → (q.group g).state = .held ∧ q.store = s.part.store ∧
        q.link.notices = s.part.link.notices) ∧
      (s.part.mode ≠ .standby → s.part.evidence g x = true →
        let told := fun p : Part => ((p.link.notices[(3 : Fin 8)]).map Notice.count).getD 0
        (q.group g).reported = true ∧
        ((s.part.group g).reported = false ∨ (s.part.group g).refRig ≠ x →
          min 255 (told s.part + 1) ≤ told q)) ∧
      (s.part.mode ≠ .standby → (s.part.group g).isFading = false → (s.part.group g).source ≠ x →
        let len := s.part.fadeLength g x
        let age := if s.part.early then RampAge.thisPeriod else .sinceLast (s.part.rampArrivals + 1)
        (len = 0 → (q.group g).state = .held) ∧
        (len ≠ 0 → (q.group g).state = .fading ⟨0, len, 0, age⟩)) ∧
      (s.part.mode ≠ .standby → s.part.PinsTo q g x) ∧
      (s.part.mode ≠ .standby →
        let alone := s.part.mode ≠ .shows ∨ ∀ h, h ≠ g → (s.part.group h).state = .held
        let count := ((s.part.link.notices[(1 : Fin 8)]).map Notice.count).getD 0
        ((s.part.group g).refRig = x → alone →
          q.link.notices[(1 : Fin 8)] = s.part.link.notices[(1 : Fin 8)] ∧ q.store = s.part.store) ∧
        ((s.part.group g).refRig ≠ x → q.store = s.part.abandonStore.store ∧
          q.link.notices[(1 : Fin 8)].isSome = true ∧
          (alone → q.link.notices[(1 : Fin 8)] =
            some ⟨.moved g (otherRig x) x .pin, min 255 (count + 1)⟩))) ∧
      ((s.part.group g).source = x → (s.part.group g).isFading = false → (q.group g).state = .held) ∧
      ((s.part.group g).refRig = x → (s.part.group g).isFading = true → s.part.mode ≠ .standby →
        (q.group g).state = (s.part.group g).state)) ∧
  (∀ (s : State) (b x : Byte), s.hears → 11 < b.toNat ∨ 1 < x.toNat →
    exec (.groupPin .addressed [b, x]) s = .next (s.refused 0x5D .badValue)) ∧
  ∀ (s : State) (body : List Byte), s.hears → body.length ≠ 2 → body.length ≤ 59 →
    exec (.groupPin .addressed body) s = .next (s.refused 0x5D .badLength)

/-- GROUP_UNPIN releases HELD and a pinned fade; GROUP_CLEAR lands a fade, clears the pin, the counters
and the Watch's runs. The judge looks at the same arrival: without evidence the group is SETTLED where it
stands, with evidence in SHOW under AUTO it enters CONFIRMING or, with HOLD_OFF 0, is decided, and a fade that
has lost its pin is reversed or runs on. A bad length or group is refused (R86, R108, R109, R117, R125, R133;
that a clear has evidence that stays barred reported is the model's choice, assumption log 50). -/
def Obligations.UnpinAndClearRelease : Prop :=
  (∀ (s : State) (body : List Byte), s.hears → body.length ≠ 1 → body.length ≤ 59 →
    exec (.groupUnpin .addressed body) s = .next (s.refused 0x5E .badLength) ∧
    exec (.groupClear .addressed body) s = .next (s.refused 0x5B .badLength)) ∧
  (∀ (s : State) (b : Byte), s.hears → 11 < b.toNat →
    exec (.groupUnpin .addressed [b]) s = .next (s.refused 0x5E .badValue) ∧
    exec (.groupClear .addressed [b]) s = .next (s.refused 0x5B .badValue)) ∧
  ∀ (s : State) (g : Fin 12), s.hears → s.part.GroupsSound →
    (∃ q, exec (.groupUnpin .addressed [u8 g]) s = .next (s.answered q 0x5E .ok
        ([u8 g, (q.group g).state.code, rigCode (q.group g).source, 0] ++ (q.group g).destBytes)) ∧
      s.part.Moves q ∧ s.part.Unpins q g ∧
      (s.part.mode ≠ .shows → (q.group g).source = (s.part.group g).source ∧
        (q.group g).state =
          if (s.part.group g).state = .held then .settled else (s.part.group g).state)) ∧
    (∃ q, exec (.groupClear .addressed [u8 g]) s =
        .next (s.answered q 0x5B .ok (q.groupStatusBody g)) ∧
      (let fresh : GroupWatch := ⟨0, 0, 0, 0, false, false, true⟩
       let w := { s.part.watch with groups := s.part.watch.groups.set g fresh }
       Part.Moves { s.part with watch := w } q ∧
       Part.SettledJudged { s.part with watch := w } q g (s.part.group g).refRig) ∧
      (q.group g).pinned = false ∧ (q.group g).glitches = 0 ∧
      (s.part.mode ≠ .shows → (q.group g).source = (s.part.group g).refRig ∧
        (q.group g).state = .settled ∧ (q.group g).returnCount = 0))

/-- The handover that takes a hold-off to 0 decides its group by the flags it brings: the evidence gone, the
group settles with a glitch; still there, the group moves to the other rig if that is ready, at once where
the fade length is 0, with MOVED, and strands with STRANDED if not. The groups are taken in ascending
number, so that the notice keeps the last one's detail. A fade that it begins is of the period that the
handover ends (R108, R111, R112, R113, R115, R126, R141, R143; the mark that says so is the model's own,
assumption log 10). HOLD_OFF_EXPIRY makes that handover, and the block completion where no such row came;
without one to make it does nothing (the model's choices, assumption log 11 and 8). -/
def Obligations.HoldOffExpiryDecides : Prop :=
  (∀ (s : State) (g : Fin 12) (a b d : Bool), s.part.atWork = true → s.part.blockPhase = 48 →
    s.part.handedOver = false → s.part.align.pendingSkew = none →
    (s.part.group g).state = .confirming 1 → s.part.mode = .shows → s.part.hasMembers g = true →
    s.part.policy g = .auto →
    ∀ c ∈ [Instr.holdOffExpiry, .blockCompletion a b d],
      ∃ t, exec c s = .next t ∧ s.part.HandsOverTo t.part ∧
        (c = .holdOffExpiry →
          t.part.blockPhase = 48 ∧ t.part.handedOver = true ∧ t.part.panel = s.part.panel) ∧
        (let p := { s.part with watch := t.part.watch }
         let r := s.part.group g
         let q := t.part.group g
         let x := r.source
         let y := otherRig x
         let len := p.fadeLength g y
         let last := ∀ h, g < h → (s.part.group h).state = .held
         (p.evidence g x = false → r.returnCount = 0 → 1 ≤ r.settings.returnDelay →
           q.state = .settled ∧ q.source = x ∧ q.glitches = min 255 (r.glitches + 1)) ∧
         (p.evidence g x = true → p.ready g y = true →
           q.refRig = y ∧ q.pinned = false ∧ q.returnCount = 0 ∧ q.returnExpired = false ∧
           q.glitches = r.glitches ∧ t.part.store = s.part.abandonStore.store ∧
           (len ≠ 0 → q.state = .fading ⟨0, len, 0, .sinceLast 0⟩) ∧ (len = 0 → q.state = .settled) ∧
           ∃ k, p.cause g x = some k ∧ t.part.link.notices[(1 : Fin 8)].isSome = true ∧
             (last → (t.part.link.notices[(1 : Fin 8)]).map Notice.detail = some (.moved g x y k))) ∧
         (p.evidence g x = true → p.ready g y = false →
           q.state = .stranded ∧ q.source = x ∧ q.glitches = r.glitches ∧
           t.part.link.notices[(0 : Fin 8)].isSome = true ∧
           (last → (t.part.link.notices[(0 : Fin 8)]).map Notice.detail = some (.stranded g x))))) ∧
  ∀ s : State,
    s.part.blockPhase ≠ 48 ∨ s.part.handedOver = true ∨
      (∀ g n, (s.part.group g).state = .confirming n → 2 ≤ n) →
    exec .holdOffExpiry s = .next s

/-- The landing of a ramp makes DEST the SOURCE, HELD if pinned, and SETTLED where no evidence stands
against it; with evidence, in SHOW under AUTO, the group enters CONFIRMING at the landing or, with HOLD_OFF
0, is decided there. A ramp that is not at its last step does not land (R108, R109, R113, R116, R142; that
the command does nothing then is the model's choice, assumption log 8, and that it may come ahead of its
period, log 12). -/
def Obligations.LandingSettlesOrHolds : Prop :=
  ∀ (s : State) (g : Fin 12) (m : Ramp), s.part.atWork = true →
    let r := s.part.group g
    r.state = .fading m →
    (m.age ≠ .thisPeriod → m.length ≤ m.step + 1 → r.returnExpired = false →
      ∃ t, exec (.landing g) s = .next t ∧ Part.Moves { s.part with early := true } t.part ∧
        (r.pinned = true →
          t.part.group g = { r with
            state := .held, source := otherRig r.source, returnCount := 0,
            reported := (t.part.group g).reported }) ∧
        (r.pinned = false → s.part.evidence g (otherRig r.source) = false →
          (t.part.group g).state = .settled ∧ (t.part.group g).pinned = false ∧
          (t.part.group g).source = otherRig r.source) ∧
        (r.pinned = false → s.part.SettledJudged t.part g (otherRig r.source))) ∧
    (m.step + 1 < m.length → exec (.landing g) s = .next s)

/-- The handover that takes a running return timer to RETURN_DELAY brings the group home if its source rig is
in a gap, at once where the fade length is 0, and leaves it expired and waiting inside a record; a pass of
the judge that finds an expired timer and a gap brings the group home as well (R98, R115, R120, R121).
RETURN_TIMER_EXPIRY makes that handover, and the block completion where no such row came; without one to make
it does nothing (the model's choices, assumption log 11 and 8, and that EXPIRED is what the last comparison
gave, log 19). -/
def Obligations.ExpiredReturnGoesHome : Prop :=
  let goesHome := fun (p q : Part) (g : Fin 12) =>
    let r := p.group g
    let home := r.settings.home
    let len := p.fadeLength g home
    (q.group g).refRig = home ∧ (q.group g).pinned = false ∧ (q.group g).returnCount = 0 ∧
    (q.group g).returnExpired = false ∧ q.store = p.abandonStore.store ∧
    (len ≠ 0 → ∃ age, (q.group g).state = .fading ⟨0, len, 0, age⟩) ∧
    (len = 0 → (q.group g).state = .settled) ∧ q.link.notices[(1 : Fin 8)].isSome = true ∧
    ((∀ h, g < h → (p.group h).state = .held) →
      (q.link.notices[(1 : Fin 8)]).map Notice.detail = some (.moved g r.source home .home))
  (∀ (s : State) (g : Fin 12) (a b d : Bool), s.part.atWork = true → s.part.blockPhase = 48 →
    s.part.handedOver = false → s.part.align.pendingSkew = none →
    let r := s.part.group g
    s.part.returnRuns g = true → r.returnExpired = false → r.settings.returnDelay ≤ 600 →
    r.settings.returnDelay * 1000 ≤ r.returnCount + 1 →
    ∀ c ∈ [Instr.returnTimerExpiry, .blockCompletion a b d],
      ∃ t, exec c s = .next t ∧ s.part.HandsOverTo t.part ∧
        (c = .returnTimerExpiry →
          t.part.blockPhase = 48 ∧ t.part.handedOver = true ∧ t.part.panel = s.part.panel) ∧
        (let p := { s.part with watch := t.part.watch }
         p.returnRuns g = true → p.evidence g r.source = false →
         (p.map.inGap r.source = true → goesHome p t.part g) ∧
         (p.map.inGap r.source = false → t.part.group g = { r with
           returnCount := min 600000 (r.returnCount + 1), returnExpired := true,
           reported := (t.part.group g).reported }))) ∧
  (∀ (p : Part) (g : Fin 12), p.returnRuns g = true → (p.group g).returnExpired = true →
    p.evidence g (p.group g).source = false → p.map.inGap (p.group g).source = true →
    goesHome p p.judge g ∧ p.Moves p.judge) ∧
  ∀ s : State,
    s.part.blockPhase ≠ 48 ∨ s.part.handedOver = true ∨
      (∀ g, s.part.returnRuns g = false ∨ (s.part.group g).returnExpired = true ∨
        (s.part.group g).returnCount + 1 < (s.part.group g).settings.returnDelay * 1000) →
    exec .returnTimerExpiry s = .next s

/-- Every group record stays sound at every step: PINNED in HELD and in fades alone, ramp lengths of 1 to
4,800 with the step short of the length and the start weight short of unity, hold-off counts of 1 to 500,
CONFIRMING and STRANDED in SHOW alone, and no fade in STANDBY, as long as every setting and every FADE stands
in its range, which every step keeps too; and the generator's followed rig is the reference rig of the LEADER
group (R54, R96, R103, R104, R105, R111, R142, R155). -/
def Obligations.EveryStepKeepsTheGroupRecords : Prop :=
  (∀ s t : State, s.part.SettingsInRange → step s = .next t → t.part.SettingsInRange) ∧
  (∀ s t : State, s.part.GroupsSound → s.part.SettingsInRange → step s = .next t →
    t.part.GroupsSound) ∧
  ∀ s t : State, s.part.FollowsLeader → step s = .next t → t.part.FollowsLeader

/-- No automatic move begins in STANDBY or REHEARSAL: of the commands that are no request, no panel
closure and no character, none makes a group enter FADING, CONFIRMING or STRANDED outside SHOW, and none
changes a reference rig (R103, R104, R108). A sample period that takes a closure may pin. -/
def Obligations.NoAutomaticMoveOutsideShow : Prop :=
  ∀ (c : Instr) (s t : State) (g : Fin 12), c.isEvent = true → (∀ k, c ≠ .contactClosure k) →
    (∀ o, c = .coreSamplePeriod o → ∀ k, let n := (s.part.panel.get k).change
      n < 9 ∨ (n < 10 ∧ s.part.blockPhase ≠ 48 ∧ (s.part.BoundaryWithin o → o.contactsTaken = []))) →
    s.part.GroupsSound → s.part.mode ≠ .shows → exec c s = .next t →
    (t.part.group g).refRig = (s.part.group g).refRig ∧
    (t.part.group g).pinned = (s.part.group g).pinned ∧
    ((t.part.group g).state = (s.part.group g).state ∨
      ((s.part.group g).isFading = true ∧
        ((t.part.group g).isFading = true ∨ (t.part.group g).state = .settled ∨
          (t.part.group g).state = .held)))

/-- Every entry into FADING, a zero-length one and a reversal among them, abandons the save or erase in
flight: its slot becomes DAMAGED, its contents are given up, its label and LOCKED are kept, the other slots
stand, and STORE with ABANDONED counts one more; with nothing in flight the store and STORE stay as they
were. So whenever a command makes some group enter FADING nothing is left in flight, and a command that is
no sample period leaves the slot it found in flight DAMAGED (R115, R117, R127, R186, R187). -/
def Obligations.EntryIntoFadingLeavesNothingInFlight : Prop :=
  let abandoned := fun (p q : Part) (k : Fin 8) =>
    q.store = { p.store with
      slots := p.store.slots.set k { p.store.slot k with state := .damaged, stored := none },
      activity := .idle } ∧
    q.link.notices[(7 : Fin 8)] = some ⟨.store (some k) .abandoned,
      match p.link.notices[(7 : Fin 8)] with
      | some n => min 255 (n.count + 1)
      | none => 1⟩
  let tells := fun (p q : Part) =>
    (p.store.activity = .idle →
      q.store = p.store ∧ q.link.notices[(7 : Fin 8)] = p.link.notices[(7 : Fin 8)]) ∧
    ∀ (k : Fin 8) (c : ShowContents) (n : Nat),
      p.store.activity = .saveErase k c n ∨ p.store.activity = .saveWrite k c n ∨
        p.store.activity = .erase k n → abandoned p q k
  (∀ (p : Part) (g : Fin 12) (pin : Bool) (cause : Cause),
    tells p (p.enterFading g pin cause) ∧
    ((p.group g).isFading = true → tells p (p.reverse g pin cause))) ∧
  (∀ (s : State) (g : Fin 12) (x : Rig), s.hears → s.part.mode ≠ .standby →
    (s.part.group g).isFading = false → (s.part.group g).source ≠ x →
    ∃ q reply, exec (.groupPin .addressed [u8 g, rigCode x]) s = .next (s.answered q 0x5D .ok reply) ∧
      tells s.part q) ∧
  ∀ (c : Instr) (s t : State) (g : Fin 12), exec c s = .next t →
    (s.part.group g).isFading = false → (t.part.group g).isFading = true →
    t.part.store.activity = .idle ∧
    ∀ k, s.part.store.activity.slot = some k → (∀ o, c ≠ .coreSamplePeriod o) → abandoned s.part t.part k

/-! ### Panel contacts -/

/-- A closure that is due is counted in every mode. In STANDBY it does nothing else; outside it CONTACT_A
and CONTACT_B pin every PANEL group to their rig, where evidence against that rig is reported at once; MOVED
counts each group that needs a ramp, with the highest of them and cause PANEL, and a closure that needs none
raises no MOVED and abandons nothing. CONTACT_FREE unpins every PANEL group, and no other group's pin
changes; an opening changes its contact alone. A pin that is taken before the handover of the completion
that brings its closure leaves no hold-off count for that handover to expire: the group stands HELD or in a
pinned fade, without a glitch (R126, R127, R130, R132, R133, R134, R135, R136, R137, R143, R146; that the
sample period's orders name it so is the model's choice, assumption log 56). -/
def Obligations.PanelClosuresPinAndRelease : Prop :=
  (∀ (s : State) (c : Contact), s.part.atWork = true →
    let was := s.part.panel.get c
    was.change = 10 → was.closed = false →
    let k := { was with closed := true, change := 0, closures := min 255 (was.closures + 1) }
    let p := { s.part with panel := s.part.panel.put c k }
    ∃ t, exec (.contactClosure c) s = .next t ∧ p.Moves t.part ∧
      (s.part.mode = .standby → t = { s with part := p }) ∧
      (s.part.mode ≠ .standby → ∀ g, (s.part.group g).settings.panel = true →
        (c = .contactA → p.PinsTo t.part g .a) ∧ (c = .contactB → p.PinsTo t.part g .b) ∧
        (c = .contactFree → s.part.GroupsSound → p.Unpins t.part g)) ∧
      (∀ x, s.part.mode ≠ .standby → (c = .contactA ∧ x = .a) ∨ (c = .contactB ∧ x = .b) →
        let movers := allGroups.filter fun g =>
          (s.part.group g).settings.panel && (s.part.group g).refRig != x
        let alone := s.part.mode ≠ .shows ∨
          ∀ g, (s.part.group g).settings.panel = false → (s.part.group g).state = .held
        let count := ((s.part.link.notices[(1 : Fin 8)]).map Notice.count).getD 0
        (movers = [] → alone →
          t.part.link.notices[(1 : Fin 8)] = s.part.link.notices[(1 : Fin 8)] ∧
          t.part.store = s.part.store) ∧
        ∀ g ∈ movers, t.part.store = s.part.abandonStore.store ∧
          (alone → (∀ h ∈ movers, h ≤ g) → t.part.link.notices[(1 : Fin 8)] =
            some ⟨.moved g (otherRig x) x .panel, min 255 (count + movers.length)⟩)) ∧
      (s.part.GroupsSound → ∀ g, (s.part.group g).settings.panel = false →
        (t.part.group g).pinned = (s.part.group g).pinned)) ∧
  (∀ (o : Orders) (s : State) (c : Contact) (x : Rig) (g : Fin 12), s.part.atWork = true →
    (c = .contactA ∧ x = .a) ∨ (c = .contactB ∧ x = .b) →
    let was := s.part.panel.get c
    let r := s.part.group g
    was.rawClosed = true → was.closed = false → was.change = 9 →
    (∀ d, d ≠ c → (s.part.panel.get d).change < 9) →
    s.part.blockPhase = 48 ∨ s.part.BoundaryWithin o → o.contactsFirst = [c] →
    s.part.mode ≠ .standby → r.settings.panel = true →
    ∃ t, exec (.coreSamplePeriod o) s = .next t ∧
      let q := t.part.group g
      (t.part.panel.get c).closures = min 255 (was.closures + 1) ∧
      q.pinned = true ∧ q.refRig = x ∧ (q.state = .held ∨ q.isFading = true) ∧
      (s.part.blockPhase = 48 → (∀ y, s.part.Punctual o y) → q.glitches = r.glitches)) ∧
  ∀ (s : State) (c : Contact), s.part.atWork = true →
    let was := s.part.panel.get c
    was.change = 10 → was.closed = true →
    let p := { s.part with panel := s.part.panel.put c { was with closed := false, change := 0 } }
    exec (.contactOpening c) s = .next { s with part := p }

/-! ### Crossfade and output lane -/

/-- A core sample period takes one frame of each rig: of a RUNNING buffer the oldest it holds, else a copy
of the last one, eight in a row from the slip by repeat at fill 0 on, and a silent one of a buffer that is
not RUNNING; n counts frames taken, and no copy. The frame enters the delay line, and the delayed samples
raise the running peaks. A slip by repeat moves the slip history on, makes the CLOCK test and breaks a
collection off as a bad marker. Every ramp that began in an earlier period goes one step on, and lands at
its length, in SHOW too while no evidence comes to stand against the DEST of an unpinned one; one begun at
the last period's completion is such a ramp, and one begun by an arrival of this period waits. OUT_LANE
carries one frame of 48 samples, and TC_OUT the next byte of the marker in progress, else the SYNC byte of
one that begins and names F_out, else the idle byte. The frame's side byte, that of a copy idle, goes to
the rig's assembler. In STANDBY every sample is zero and both tallies are dark; outside it each sample is
the mix of the two rigs' delayed samples under the weights that stand (R7, R10, R31, R32, R33, R34, R35,
R43, R82, R116, R140, R141, R142, R144, R149, R150, R156). That a period that finds a block completion due
and untaken settles it first is the model's choice (assumption log 9), and so is how many of the arrivals
since the last period are of it, by the operand that counts them, and the numbers that their ramps carry
(assumption log 10); so are the orders that place a block boundary, and the end of CLOCK at a slip's age of
480,000, against the rest of the period (assumption log 47). A boundary within the period ends its block with
it, sets the peaks to 0 and leaves the output to the old skew; that, and that a slip's age is 0 at the end of
its own period, are the model's deductions (assumption log 55, 36). -/
def Obligations.SamplePeriodFormsTheOutput : Prop :=
  ∀ (o : Orders) (s : State), s.part.atWork = true →
    let within := s.part.BoundaryWithin o
    ∃ t, exec (.coreSamplePeriod o) s = .next t ∧ t.part.tcOut.isSome = true ∧
      t.part.config = s.part.config ∧ { t.part.link with notices := s.part.link.notices } = s.part.link ∧
      t.part.blockPhase = (if within then 0 else if s.part.blockPhase = 48 then 1
        else min 48 (s.part.blockPhase + 1)) ∧
      t.part.align.lineA.tail = s.part.align.lineA.take 511 ∧
      t.part.align.lineB.tail = s.part.align.lineB.take 511 ∧
      (∀ x : Rig,
        let r := s.part.rig x
        let q := t.part.rig x
        let head := (t.part.align.line x).head?
        q.bufState = r.bufState ∧
        (r.bufState ≠ .running → head = some silentAudio ∧ q.frames = r.frames ∧ q.slips = r.slips ∧
          q.repeatLeft = r.repeatLeft ∧ q.asm = (r.assemble ⟨silentAudio, 0, false⟩).1.asm) ∧
        (∀ f fs, r.bufState = .running → r.repeatLeft = 0 → r.frames = f :: fs →
          head = some f.audio ∧ q.frames = fs ∧ q.lastTaken = f ∧ q.slips = r.slips ∧ q.repeatLeft = 0 ∧
          q.asm = (r.assemble f).1.asm) ∧
        (r.bufState = .running → r.repeatLeft = 0 → r.frames = [] →
          head = some r.lastTaken.audio ∧ q.slips = min 255 (r.slips + 1) ∧ q.repeatLeft = 7 ∧
          q.slipNewer = some 0 ∧ q.slipOlder = r.slipNewer.map (fun n => min 480000 (n + 1)) ∧
          (q.faults.clock = true ↔ (r.faults.clock = true ∧ ∀ n, r.slipNewer = some n →
              n < 480000 ∧ (o.clearFirst x = true → n + 1 < 480000)) ∨
            ∃ n, r.slipOlder = some n ∧ n + 1 < 48000) ∧
          (r.deltas.faults.clock = true ∨ q.faults.clock ≠ r.faults.clock →
            q.deltas.faults.clock = true) ∧
          (s.part.Punctual o x →
            q.deltas.faults.clock = (r.deltas.faults.clock || q.faults.clock != r.faults.clock)) ∧
          q.badMarkers = (if r.asm = .hunting then r.badMarkers else min 255 (r.badMarkers + 1)) ∧
          q.asm = .hunting) ∧
        (r.bufState = .running → r.repeatLeft ≠ 0 →
          head = some r.lastTaken.audio ∧ q.frames = r.frames ∧ q.slips = r.slips ∧
          q.repeatLeft = r.repeatLeft - 1 ∧ q.asm = (r.assemble ⟨r.lastTaken.audio, 0, false⟩).1.asm) ∧
        (r.asm = .hunting → r.run ≠ some .playing ∨ r.n < 3 * s.part.align.settings.rate.spf + 7 →
          q.n = if r.bufState = .running ∧ r.repeatLeft = 0 ∧ r.frames ≠ [] ∧ r.run ≠ none
            then min 65535 (r.n + 1) else r.n)) ∧
      (∀ b bs, s.part.tc.sending = b :: bs → t.part.tcOut = some b ∧ t.part.tc.sending = bs) ∧
      (s.part.tc.sending = [] →
        (t.part.tcOut = some 0x00 ∧ t.part.tc.sending = []) ∨
        ∃ f shown, t.part.tc.fOut = some f ∧ t.part.tcOut = some 0xC3 ∧ t.part.tc.cadence = 0 ∧
          t.part.tc.sending = (markerBytes s.part.align.settings.rate f shown).tail) ∧
      (let fresh := s.part.blockPhase = 48 ∧ s.part.handedOver = false
       let ended := within ∧ s.part.handedOver = false
       (ended → t.part.watch.peaksA = zeroPeaks ∧ t.part.watch.peaksB = zeroPeaks) ∧
       (fresh → ∀ c : Fin 48,
          t.part.watch.peaksA.getD c 0 = magnitude (t.part.align.delayed .a c) ∧
          t.part.watch.peaksB.getD c 0 = magnitude (t.part.align.delayed .b c)) ∧
       (¬fresh → ¬ended → ∀ c : Fin 48,
          t.part.watch.peaksA.getD c 0 =
            max (s.part.watch.peaksA.getD c 0) (magnitude (t.part.align.delayed .a c)) ∧
          t.part.watch.peaksB.getD c 0 =
            max (s.part.watch.peaksB.getD c 0) (magnitude (t.part.align.delayed .b c)))) ∧
      (s.part.blockPhase ≠ 48 → (∀ k, let n := (s.part.panel.get k).change
          n < 9 ∨ (n < 10 ∧ (within → o.contactsTaken = []))) → ∀ (g : Fin 12) (m : Ramp),
        let r := s.part.group g
        let q := t.part.group g
        let waits := m.age = .thisPeriod ∨ ∃ n, m.age = .sinceLast n ∧ o.ofLast < n
        let dest := otherRig r.source
        let steady := let d := s.part.rig dest
          s.part.evidence g dest = false ∧ r.returnExpired = false ∧
          (d.assemble d.nextFrame).2 = none ∧ ¬(d.bufState = .running ∧ d.repeatLeft = 0 ∧ d.frames = []) ∧
          (d.run ≠ some .playing ∨ d.n + 1 < 3 * s.part.align.settings.rate.spf + 7)
        r.state = .fading m → s.part.mode ≠ .shows ∨ r.pinned = true ∨ (steady ∧ ¬within) →
        (waits → m.step < m.length → q.state = .fading { m with age := .older } ∧ q.source = r.source) ∧
        (¬waits → m.step + 1 < m.length →
          q.state = .fading { m with step := m.step + 1, age := .older } ∧ q.source = r.source) ∧
        (¬waits → m.length ≤ m.step + 1 →
          q.state = (if r.pinned then .held else .settled) ∧ q.source = otherRig r.source)) ∧
      (s.part.mode = .standby → t.part.outLane = some (List.replicate 48 0) ∧
        t.part.tally .a = false ∧ t.part.tally .b = false) ∧
      (s.part.mode ≠ .standby → t.part.outLane = some (allChannels.map fun c =>
        let r := t.part.group t.part.members[c]
        let u := if within then { t.part.align with s := s.part.align.s } else t.part.align
        mixSample (u.delayed r.source c) (u.delayed (otherRig r.source) c) r.destWeight))

/-- The mix rounds the blend to the nearest integer, an exact half upward: a blend of −0.5 gives 0 and one
of 1.5 gives 2. It stays a 24-bit sample without saturation, lies between the two samples, and passes the
source's sample at u = 0 and the other's at unity (R144, R145). -/
def Obligations.MixRoundsAndStaysInRange : Prop :=
  ∀ (xs xd : Sample) (u : Nat), u ≤ 32768 →
    let y := (mixSample xs xd u).toInt
    let blend := xs.toInt * (32768 - (u : Int)) + xd.toInt * u
    y = (blend + 16384) / 32768 ∧
    2 * blend - 32768 < 65536 * y ∧ 65536 * y ≤ 2 * blend + 32768 ∧
    (2 * blend = -32768 → y = 0) ∧ (2 * blend = 3 * 32768 → y = 2) ∧
    -8388608 ≤ y ∧ y ≤ 8388607 ∧
    min xs.toInt xd.toInt ≤ y ∧ y ≤ max xs.toInt xd.toInt ∧
    (u = 0 → mixSample xs xd u = xs) ∧ (u = 32768 → mixSample xs xd u = xd)

/-- The weight of a ramp is u0 at step 0, never falls, is unity at step n and not before, and is above 0
from step 1. A reversal moves no weight: both rigs have immediately after it what they had before, whether
the ramp restarts or the group lands at once, and its length is the way out so far. Outside STANDBY a rig's
tally is lit, and the rig is not silent, exactly where some group with members has a weight above 0 on it
(R45, R117, R139, R140, R142, R146). -/
def Obligations.RampsRiseAndReverseWithoutAJump : Prop :=
  (∀ (u0 n j : Nat) (age : RampAge), u0 < 32768 → 1 ≤ n → n ≤ 4800 → j ≤ n →
    let u := fun j => (Ramp.mk u0 n j age).weight
    u j = u0 + (32768 - u0) * j / n ∧ u 0 = u0 ∧ u0 ≤ u j ∧ u j ≤ 32768 ∧ (u j = 32768 ↔ j = n) ∧
    (j < n → u j ≤ u (j + 1)) ∧ (1 ≤ j → 0 < u j)) ∧
  (∀ (p : Part) (x : Rig), p.atWork = true →
    let drawn := ∃ (g : Fin 12) (c : Fin 48), p.members[c] = g ∧
      match (p.group g).state with
      | .fading m => if x = (p.group g).source then m.weight < 32768 else 0 < m.weight
      | _ => x = (p.group g).source
    (p.tally x = true ↔ p.mode ≠ .standby ∧ drawn) ∧ (p.silent x = true ↔ p.mode = .standby ∨ ¬drawn)) ∧
  ∀ (p : Part) (g : Fin 12) (m : Ramp) (pin : Bool) (cause : Cause),
    (p.group g).state = .fading m → m.startWeight < 32768 → 1 ≤ m.length → m.step < m.length →
    let q := p.reverse g pin cause
    (∀ x, (q.group g).weightOn x = (p.group g).weightOn x) ∧
    (q.group g).refRig = (p.group g).source ∧ (q.group g).pinned = pin ∧
    (m.weight ≠ 0 → ∃ age, (q.group g).state =
      .fading ⟨32768 - m.weight, if m.step = 0 then m.length else m.step, 0, age⟩) ∧
    (m.weight = 0 → (q.group g).state = if pin then .held else .settled) ∧
    p.Moves q ∧ q.store.activity = .idle

/-! ### Show timecode -/

/-- TC_SET: the read, a write with its clamp, TC_ENABLE off discarding F_out, TC_ENABLE on leaving the
generator pending, a write of the stored settings without effect, and the refusals. A written LEADER makes its
group's reference rig the followed rig, taken as a change of it where it differs; then FREEWHEEL_LIMIT applies
at once in FREEWHEEL, and END_MODE at once in HOLD, SILENT and RUN_ON (R153, R154, R155, R162, R164; that
SILENT drops a marker still owed is the model's choice, assumption log 21). -/
def Obligations.TcSetReadsAndWrites : Prop :=
  (∀ s : State, s.hears →
    exec (.tcSet .addressed []) s = .next (s.answered s.part 0x68 .ok s.part.tc.body)) ∧
  (∀ (s : State) (on : Bool) (g : Fin 12) (limit : Byte) (m : EndMode), s.hears →
    let new : TcSettings := ⟨on, g, min 250 limit.toNat, m⟩
    ∃ tc, exec (.tcSet .addressed [u8 (bit on), u8 g, limit, m.code]) s =
        .next (s.answered { s.part with tc := tc } 0x68
          (if limit.toNat ≤ 250 then .ok else .adjusted) tc.body) ∧
      tc.settings = new ∧ (new = s.part.tc.settings → tc = s.part.tc) ∧
      tc.sending = s.part.tc.sending ∧
      (on = false → s.part.tc.settings.enable = true → tc.state = .off ∧ tc.fOut = none) ∧
      (on = true → s.part.tc.settings.enable = false → tc.state = .follow ∧ tc.fOut = none) ∧
      (new ≠ s.part.tc.settings →
        let x := (s.part.group g).refRig
        let w := { s.part.tc with settings := new }
        let u := if x = w.followed then w else (Part.followRig { s.part with tc := w } x).tc
        let ended := { u with state := m.state, owed := u.owed && m != .silent }
        tc.followed = x ∧
        (on = s.part.tc.settings.enable →
          (u.state = .off ∨ u.state = .follow → tc = u) ∧
          (u.state = .freewheel → u.freewheelCount < min 250 limit.toNat → tc = u) ∧
          (u.state = .freewheel → min 250 limit.toNat ≤ u.freewheelCount → tc = ended) ∧
          (u.state = .hold ∨ u.state = .silent ∨ u.state = .runOn → tc = ended)))) ∧
  (∀ (s : State) (e g limit m : Byte), s.hears → 1 < e.toNat ∨ 11 < g.toNat ∨ 2 < m.toNat →
    exec (.tcSet .addressed [e, g, limit, m]) s = .next (s.refused 0x68 .badValue)) ∧
  ∀ (s : State) (body : List Byte), s.hears → body.length ≠ 0 → body.length ≠ 4 → body.length ≤ 59 →
    exec (.tcSet .addressed body) s = .next (s.refused 0x68 .badLength)

/-- What the generator sends and follows. A good marker of the followed rig jams a pending generator, is
followed in FOLLOW with the re-jam test, takes it to FREEWHEEL where it raised JUMP, and, PLAYING and free
of LINK, STALL and JUMP, brings it back from FREEWHEEL and the end modes; one of the other rig does
nothing. In FOLLOW on a PLAYING rig a marker begins in the period in which the aligned frame becomes the
next one. The loss of the followed rig's position takes FOLLOW to FREEWHEEL. A new followed rig is taken
by the generator's state and that rig's condition. A marker of the cadence begins when C reaches SPF in a
state that keeps time by itself: F_out steps in FREEWHEEL and RUN_ON under PLAYING, HOLD sends STOPPED,
FREEWHEEL counts; at its limit, at once for a limit of 0, END_MODE applies (R155, R156, R157, R158, R159,
R160, R161, R162, R163, R164). The model's choices in it: a row that comes when nothing is due does
nothing (assumption log 8), the cadence row may come ahead of its sample period (log 12), a crossing is
met where Fa stands at F_out + 1 (log 20), SILENT drops a marker still owed (log 21), C above SPF already
sends at once in FOLLOW on a halted rig (log 51), a jump of a rig that carries JUMP already makes the
re-jam test (log 52), and the generator takes a port's arrival before the move made at it (log 43). Every
core sample period is a period of the generator, which counts C, meets the crossing and sends a byte; it
comes after the frames and markers of that period (log 20, 37), and what was due as the period began is
settled before both (log 9). With a block boundary within the period (log 47) the crossing is tested with the
old skew, and a marker taken after the boundary finds the new one (log 55). -/
def Obligations.TheGeneratorFollowsAndKeepsTime : Prop :=
  let freewheeling := fun tc : Timecode =>
    if tc.settings.freewheelLimit = 0 then { tc with
      freewheelCount := 0, state := tc.settings.endMode.state,
      owed := tc.owed && tc.settings.endMode != .silent }
    else { tc with freewheelCount := 0, state := .freewheel }
  let frameOf := fun (p : Part) (x : Rig) =>
    let r := p.rig x
    let spf := p.align.settings.rate.spf
    ((((r.fLast * spf + r.n : Nat) : Int) - delayOf p.align.s x) % 4147200000).toNat / spf
  let rejam := fun (p : Part) (x : Rig) (t : Transport) (f : Nat) =>
    let g := (p.rig x).fLast
    if dayDistance p.align.settings.rate f g ≤ 1 then f else if t = .playing then frameOf p x else g
  let good := fun (p : Part) (x : Rig) => (p.rig x).posValid = true ∧
    (p.rig x).faults.link = false ∧ (p.rig x).faults.stall = false ∧ (p.rig x).faults.jump = false
  (∀ (p : Part) (x : Rig) (t : Transport) (jumped : Bool),
    (p.rig x).run = some t → (p.rig x).posValid = true →
    let tc := p.tc
    let q := p.tcMarker x t jumped
    (x ≠ tc.followed ∨ tc.state = .off → q = p) ∧
    (x = tc.followed → tc.state = .follow → tc.fOut = none →
      let f := if t = .playing then frameOf p x else (p.rig x).fLast
      q = { p with tc := { tc with fOut := some f, runSent := t } }) ∧
    ∀ f, x = tc.followed → tc.fOut = some f →
      (tc.state = .follow → jumped = true → q = { p with tc := freewheeling tc }) ∧
      (tc.state = .follow → jumped = false →
        let f' := if t = .playing then rejam p x t f else (p.rig x).fLast
        q = { p with tc := { tc with fOut := some f', runSent := t } }) ∧
      (tc.state ≠ .off → tc.state ≠ .follow →
        (t = .playing → good p x → q = { p with tc := { tc with
          state := .follow, fOut := some (rejam p x t f), runSent := t } }) ∧
        (t ≠ .playing ∨ ¬good p x → q = p))) ∧
  (∀ (p : Part) (f : Nat),
    let tc := p.tc
    let rate := p.align.settings.rate
    let r := p.rig tc.followed
    let fa := frameOf p tc.followed
    let crosses := fa = (f + 1) % rate.dayFrames
    let count := if tc.begunAhead then tc.cadence else min 65535 (tc.cadence + 1)
    tc.state = .follow → tc.fOut = some f → r.run = some .playing → r.posValid = true →
    tc.owed = false →
    (tc.sending = [] → crosses → p.tcPeriod = { p with
      tcOut := some 0xC3, tc := { tc with
        fOut := some fa, sending := (markerBytes rate fa tc.runSent).tail, cadence := 0,
        begunAhead := false } }) ∧
    (tc.sending = [] → ¬crosses → p.tcPeriod = { p with
      tcOut := some 0x00, tc := { tc with cadence := count, begunAhead := false } }) ∧
    ∀ b bs, tc.sending = b :: bs → p.tcPeriod = { p with
      tcOut := some b, tc := { tc with
        fOut := if crosses then some fa else some f, owed := decide crosses, sending := bs,
        cadence := count, begunAhead := false } }) ∧
  (∀ (s : State) (x : Rig),
    let r := s.part.rig x
    let tc := s.part.tc
    s.part.atWork = true → x = tc.followed → tc.state = .follow → tc.fOut.isSome = true →
    r.posValid = true → s.part.FollowsLeader →
    s.part.mode ≠ .shows ∨ (s.part.group tc.settings.leader).state = .held →
    (r.run = some .playing → 3 * s.part.align.settings.rate.spf + 7 ≤ r.n →
      ∃ t, exec (.markerTimeout x) s = .next t ∧ t.part.tc = freewheeling tc) ∧
    (r.lock = .locked → r.badRun = 3 →
      ∃ t, exec (.missingFrame x) s = .next t ∧ t.part.tc = freewheeling tc)) ∧
  (∀ (p : Part) (x : Rig),
    let tc := { p.tc with followed := x }
    (tc.state = .off ∨ (tc.state = .follow ∧ tc.fOut = none) → p.followRig x = { p with tc := tc }) ∧
    (∀ f t, tc.fOut = some f → tc.state ≠ .off → (p.rig x).run = some t → good p x →
      p.followRig x = { p with tc := { tc with
        state := .follow, runSent := t, fOut := some (rejam p x t f) } }) ∧
    (¬good p x →
      (tc.state = .follow → tc.fOut.isSome = true → p.followRig x = { p with tc := freewheeling tc }) ∧
      (tc.state ≠ .follow → p.followRig x = { p with tc := tc }))) ∧
  (∀ (o : Orders) (s : State), s.part.atWork = true →
    let tc := s.part.tc
    let x := tc.followed
    let r := s.part.rig x
    let marker := (r.assemble r.nextFrame).2
    r.run ≠ some .playing ∨ r.n + 1 < 3 * s.part.align.settings.rate.spf + 7 → s.part.FollowsLeader →
    s.part.mode ≠ .shows ∨ (s.part.group tc.settings.leader).state = .held →
    (∀ k, let n := (s.part.panel.get k).change
      n < 9 ∨ (n < 10 ∧ s.part.blockPhase ≠ 48 ∧ (s.part.BoundaryWithin o → o.contactsTaken = []))) →
    tc.state ≠ .freewheel ∨ tc.freewheelCount < tc.settings.freewheelLimit →
    ∃ t, exec (.coreSamplePeriod o) s = .next t ∧
      let u := { t.part with tc := tc }
      let old := if s.part.BoundaryWithin o then { u.align with s := s.part.align.s } else u.align
      let v := if o.boundary = .between ∧ o.advanceLast = true then { u with align := old } else u
      let jumped := (t.part.rig x).faults.jump && !r.faults.jump
      let sends := fun w : Part =>
        let z := { w with align := old }.tcPeriod
        t.part.tc = z.tc ∧ t.part.tcOut = z.tcOut
      (marker = none → sends u) ∧
      ∀ bytes, marker = some bytes → ¬(r.bufState = .running ∧ r.repeatLeft = 0 ∧ r.frames = []) →
        (∀ f m, judgeMarker s.part.align.settings.rate bytes = some (f, m) →
          sends (v.tcMarker x m jumped)) ∧
        (judgeMarker s.part.align.settings.rate bytes = none → sends u)) ∧
  (∀ (s : State) (f : Nat), s.part.atWork = true →
    let tc := s.part.tc
    let rate := s.part.align.settings.rate
    tc.fOut = some f →
    (tc.state = .freewheel ∨ tc.state = .hold ∨ tc.state = .runOn ∨
      (tc.state = .follow ∧ ((s.part.rig tc.followed).run = some .stopped ∨
        (s.part.rig tc.followed).run = some .locating))) →
    tc.sending = [] → tc.owed = false → tc.begunAhead = false → rate.spf ≤ tc.cadence + 1 →
    let steps := (tc.state = .freewheel ∨ tc.state = .runOn) ∧ tc.runSent = .playing
    let f' := if steps then (f + 1) % rate.dayFrames else f
    let shown := if tc.state = .hold then .stopped else tc.runSent
    let count := if tc.state = .freewheel then min 250 (tc.freewheelCount + 1) else tc.freewheelCount
    let tc' := { tc with
      fOut := some f', sending := markerBytes rate f' shown, cadence := 0, begunAhead := true,
      freewheelCount := count }
    exec .tcCadenceMarker s = .next { s with part := { s.part with early := true, tc := tc' } }) ∧
  ∀ s : State, s.part.atWork = true →
    let tc := s.part.tc
    (tc.state = .freewheel → tc.settings.freewheelLimit ≤ tc.freewheelCount →
      let tc' := { tc with
        state := tc.settings.endMode.state, owed := tc.owed && tc.settings.endMode != .silent }
      exec .freewheelLimitReached s = .next { s with part := { s.part with tc := tc' } }) ∧
    (tc.state ≠ .freewheel ∨ tc.freewheelCount < tc.settings.freewheelLimit →
      exec .freewheelLimitReached s = .next s)

/-! ### Show store and start-up -/

/-- SLOT_SAVE takes its snapshot into the work in flight and leaves the slot WRITING; after 11,520 sample
periods the write phase begins, and after 1,920 + 36 × r more the slot is VALID with the snapshot, its sum
and STORE SAVED. Every core sample period is counted in the work in flight, unless an entry into FADING in it
abandons the save. A bad length, slot or label, a store at work and a LOCKED slot refuse it (R183, R184, R185,
R186; that a row ahead of its time does nothing, that a period that finds the erase phase over settles it
first, and that a period's orders may have the end of a phase within it, before its entries into FADING, are
the model's choices, assumption log 8, 9 and 47). -/
def Obligations.SavingASlot : Prop :=
  (∀ (s : State) (body : List Byte), s.hears → body.length ≤ 59 →
    body.length = 0 ∨ 17 < body.length →
    exec (.slotSave .addressed body) s = .next (s.refused 0x70 .badLength)) ∧
  (∀ (s : State) (b : Byte) (label : List Byte), s.hears → label.length ≤ 16 →
    7 < b.toNat ∨ (∃ c ∈ label, c.toNat < 0x20 ∨ 0x7E < c.toNat) →
    exec (.slotSave .addressed (b :: label)) s = .next (s.refused 0x70 .badValue)) ∧
  (∀ (s : State) (k : Fin 8) (label : List Byte), s.hears → label.length ≤ 16 →
    (∀ c ∈ label, 0x20 ≤ c.toNat ∧ c.toNat ≤ 0x7E) →
    let st := s.part.store
    (st.activity ≠ .idle →
      exec (.slotSave .addressed (u8 k :: label)) s = .next (s.refused 0x70 .busy)) ∧
    (st.activity = .idle → (st.slot k).locked = true →
      exec (.slotSave .addressed (u8 k :: label)) s = .next (s.refused 0x70 .locked)) ∧
    (st.activity = .idle → (st.slot k).locked = false →
      let st' := { st with
        slots := st.slots.set k ⟨.writing, false, label, none⟩,
        activity := .saveErase k s.part.snapshot 0 }
      exec (.slotSave .addressed (u8 k :: label)) s = .next (s.answered { s.part with store := st' }
        0x70 .accepted [u8 k, u8 (s.part.map.recs.countP fun r => !r.retiring)]))) ∧
  (∀ (o : Orders) (s : State) (k : Fin 8) (c : ShowContents) (n : Nat), s.part.atWork = true →
    let length := 1920 + 36 * c.segs.length
    let first := o.storeFirst = true
    let counts := fun now next : Activity => s.part.store.activity = now →
      ∃ t, exec (.coreSamplePeriod o) s = .next t ∧
        (t.part.store.activity = next ∨ s.part.AbandonsIn o k t.part)
    let completes := fun now : Activity => s.part.store.activity = now →
      ∃ t, exec (.coreSamplePeriod o) s = .next t ∧ ((t.part.store.activity = .idle ∧
          t.part.store.slot k =
            { s.part.store.slot k with state := .valid, stored := some ⟨c, contentSum c⟩ } ∧
          (t.part.link.notices[(7 : Fin 8)]).map Notice.detail = some (.store (some k) .saved)) ∨
        s.part.AbandonsIn o k t.part)
    (n + 1 < 11520 ∨ (n + 1 = 11520 ∧ ¬first) → counts (.saveErase k c n) (.saveErase k c (n + 1))) ∧
    (n + 1 = 11520 → first → counts (.saveErase k c n) (.saveWrite k c 0)) ∧
    (11520 ≤ n → n - 11520 + 1 < length ∨ (n - 11520 + 1 = length ∧ ¬first) →
      counts (.saveErase k c n) (.saveWrite k c (n - 11520 + 1))) ∧
    (n + 1 < length ∨ (n + 1 = length ∧ ¬first) →
      counts (.saveWrite k c n) (.saveWrite k c (n + 1))) ∧
    (first → (n + 1 = length → completes (.saveWrite k c n)) ∧
      (11520 ≤ n → n - 11520 + 1 = length → completes (.saveErase k c n)))) ∧
  ∀ (s : State) (k : Fin 8) (c : ShowContents) (n : Nat), s.part.atWork = true →
    let st := s.part.store
    (st.activity = .saveErase k c n → 11520 ≤ n →
      let st' := { st with activity := .saveWrite k c (n - 11520) }
      exec .saveErasePhaseEnd s = .next { s with part := { s.part with store := st' } }) ∧
    (st.activity = .saveErase k c n → n < 11520 → exec .saveErasePhaseEnd s = .next s) ∧
    (st.activity = .saveWrite k c n → 1920 + 36 * c.segs.length ≤ n →
      let slot := { st.slot k with state := .valid, stored := some ⟨c, contentSum c⟩ }
      let st' := { st with slots := st.slots.set k slot, activity := .idle }
      let p := { s.part with store := st' }
      exec .saveCompletion s = .next { s with part := p.raise (.store (some k) .saved) }) ∧
    (st.activity = .saveWrite k c n → n < 1920 + 36 * c.segs.length →
      exec .saveCompletion s = .next s)

/-- SLOT_ERASE gives up a slot, and after 11,520 sample periods it is EMPTY with no label and STORE ERASED;
every core sample period is counted, unless an entry into FADING in it abandons the erase (R187; that the
row ahead of its time does nothing, and that a period's orders may have the erase end within it, are the
model's choices, assumption log 8 and 47). SLOT_INFO, SLOT_LOCK and
SLOT_BOOT report and set the slots' attributes (R189). Each refuses a bad length or slot. -/
def Obligations.ErasingASlotAndItsAttributes : Prop :=
  (∀ (s : State) (body : List Byte), s.hears → body.length ≤ 59 →
    (body.length ≠ 1 → exec (.slotErase .addressed body) s = .next (s.refused 0x71 .badLength) ∧
      exec (.slotInfo .addressed body) s = .next (s.refused 0x73 .badLength) ∧
      exec (.slotBoot .addressed body) s = .next (s.refused 0x75 .badLength)) ∧
    (body.length ≠ 2 → exec (.slotLock .addressed body) s = .next (s.refused 0x74 .badLength))) ∧
  (∀ (s : State) (b v : Byte), s.hears →
    (7 < b.toNat → exec (.slotErase .addressed [b]) s = .next (s.refused 0x71 .badValue) ∧
      exec (.slotInfo .addressed [b]) s = .next (s.refused 0x73 .badValue) ∧
      (b ≠ 0xFF → exec (.slotBoot .addressed [b]) s = .next (s.refused 0x75 .badValue))) ∧
    (7 < b.toNat ∨ 1 < v.toNat →
      exec (.slotLock .addressed [b, v]) s = .next (s.refused 0x74 .badValue))) ∧
  (∀ (s : State) (k : Fin 8), s.hears →
    let st := s.part.store
    let slot := st.slot k
    let flags := fun (locked : Bool) => u8 (bit locked + 2 * bit (st.boot == some k))
    (st.activity ≠ .idle →
      exec (.slotErase .addressed [u8 k]) s = .next (s.refused 0x71 .busy)) ∧
    (st.activity = .idle → slot.locked = true →
      exec (.slotErase .addressed [u8 k]) s = .next (s.refused 0x71 .locked)) ∧
    (st.activity = .idle → slot.locked = false →
      let st' := { st with slots := st.slots.set k ⟨.writing, false, [], none⟩, activity := .erase k 0 }
      exec (.slotErase .addressed [u8 k]) s =
        .next (s.answered { s.part with store := st' } 0x71 .accepted [u8 k])) ∧
    exec (.slotInfo .addressed [u8 k]) s = .next (s.answered s.part 0x73 .ok
      ([u8 k, slot.state.code, flags slot.locked, u8 (st.recordCount k), u8 slot.label.length] ++
        slot.label)) ∧
    (∀ on : Bool, slot.state ≠ .writing →
      let st' := { st with slots := st.slots.set k { slot with locked := on } }
      exec (.slotLock .addressed [u8 k, u8 (bit on)]) s =
        .next (s.answered { s.part with store := st' } 0x74 .ok [u8 k, flags on])) ∧
    (∀ on : Bool, slot.state = .writing →
      exec (.slotLock .addressed [u8 k, u8 (bit on)]) s = .next (s.refused 0x74 .busy)) ∧
    exec (.slotBoot .addressed [u8 k]) s = .next (s.answered
      { s.part with store := { st with boot := some k } } 0x75 .ok [u8 k]) ∧
    exec (.slotBoot .addressed [0xFF]) s = .next (s.answered
      { s.part with store := { st with boot := none } } 0x75 .ok [0xFF])) ∧
  (∀ (o : Orders) (s : State) (k : Fin 8) (n : Nat), s.part.atWork = true →
    s.part.store.activity = .erase k n → n < 11520 →
    let ends := n + 1 = 11520 ∧ o.storeFirst = true
    ∃ t, exec (.coreSamplePeriod o) s = .next t ∧
      ((¬ends ∧ t.part.store.activity = .erase k (n + 1)) ∨
        (ends ∧ t.part.store.activity = .idle ∧
          t.part.store.slot k = ⟨.empty, (s.part.store.slot k).locked, [], none⟩ ∧
          (t.part.link.notices[(7 : Fin 8)]).map Notice.detail = some (.store (some k) .erased)) ∨
        s.part.AbandonsIn o k t.part)) ∧
  ∀ (s : State) (k : Fin 8) (n : Nat), s.part.atWork = true → s.part.store.activity = .erase k n →
    let st := s.part.store
    (11520 ≤ n →
      let st' := { st with
        slots := st.slots.set k ⟨.empty, (st.slot k).locked, [], none⟩, activity := .idle }
      let p := { s.part with store := st' }
      exec .eraseCompletion s = .next { s with part := p.raise (.store (some k) .erased) }) ∧
    (n < 11520 → exec .eraseCompletion s = .next s)

/-- SLOT_LOAD: its refusals in their order, and a load whose sum matches replaces the running configuration,
so that a save made at once would capture the same contents, with every group SETTLED on its HOME. A
position-valid rig takes its current segment from the new map by its F_last, any other the gap. A changed
RATE takes both rigs' positions with STALL, makes D none and leaves the generator pending unless it is OFF;
the same RATE leaves faults, positions and D; what changed sets its delta, with RIG_CHANGE. The current
source is judged again by a changed PREFERENCE (R26, R29, R30, R38, R58, R77, R86, R128, R154, R155, R165,
R183, R188; the order in which the blocks take the load, and that a PREFERENCE that matches the stored one
leaves the source unjudged, are the model's deductions, assumption log 39 and 44; that a changed RATE keeps
F_last, and that ALIGN is left clear where it takes the flag that a new ALIGN_TOL would have given, are its
choices, log 53 and 54). -/
def Obligations.LoadingASlot : Prop :=
  (∀ (s : State) (body : List Byte), s.hears → body.length ≠ 1 → body.length ≤ 59 →
    exec (.slotLoad .addressed body) s = .next (s.refused 0x72 .badLength)) ∧
  (∀ (s : State) (b : Byte), s.hears → 7 < b.toNat →
    exec (.slotLoad .addressed [b]) s = .next (s.refused 0x72 .badValue)) ∧
  ∀ (s : State) (k : Fin 8), s.hears →
    let slot := s.part.store.slot k
    (s.part.mode ≠ .standby →
      exec (.slotLoad .addressed [u8 k]) s = .next (s.refused 0x72 .wrongMode)) ∧
    (s.part.mode = .standby → s.part.store.activity ≠ .idle →
      exec (.slotLoad .addressed [u8 k]) s = .next (s.refused 0x72 .busy)) ∧
    (s.part.mode = .standby → s.part.store.activity = .idle → slot.state = .empty →
      exec (.slotLoad .addressed [u8 k]) s = .next (s.refused 0x72 .notFound)) ∧
    (s.part.mode = .standby → s.part.store.activity = .idle → slot.state = .damaged →
      exec (.slotLoad .addressed [u8 k]) s = .next (s.refused 0x72 .damaged)) ∧
    (∀ w, s.part.mode = .standby → s.part.store.activity = .idle → slot.state = .valid →
      slot.stored = some w →
      (contentSum w.contents ≠ w.sum →
        exec (.slotLoad .addressed [u8 k]) s = .next (s.answered
          (s.part.setStore (s.part.store.setSlot k { slot with state := .damaged })) 0x72 .damaged [])) ∧
      (contentSum w.contents = w.sum →
        ∃ q, exec (.slotLoad .addressed [u8 k]) s = .next (s.answered q 0x72 .ok
            ([u8 k, u8 w.contents.segs.length] ++ be16 ((s.part.map.generation + 1) % 65536))) ∧
          q.snapshot = w.contents ∧
          (∀ g : Fin 12, q.group g =
            Group.settledOn w.contents.groups[g] (w.contents.groups[g]).home) ∧
          q.map.recs = w.contents.segs.map (fun r => ⟨r, false⟩) ∧
          q.map.generation = (s.part.map.generation + 1) % 65536 ∧
          q.map.cursorIndex = 0 ∧ q.map.cursorGen = q.map.generation ∧
          q.mode = .standby ∧ q.store = s.part.store ∧ q.align.s = s.part.align.s ∧
          q.panel = s.part.panel ∧ q.link.mask = s.part.link.mask ∧
          (∀ x,
            ((q.rig x).posValid = false → q.map.held x = none) ∧
            ((q.rig x).posValid = true →
              (∀ r ∈ w.contents.segs, r.contains (q.rig x).fLast = true →
                (∀ e ∈ w.contents.segs, e.contains (q.rig x).fLast = true → e.id = r.id) →
                q.map.held x = some r.id) ∧
              ((∀ r ∈ w.contents.segs, r.contains (q.rig x).fLast = false) → q.map.held x = none))) ∧
          (∀ x, (s.part.rig x).SetsDeltas (q.rig x)) ∧ s.part.SetsAlignDeltas q ∧
          s.part.TellsRigChange q ∧
          (∀ x, let r := s.part.rig x
            let new := if w.contents.show'.rate = s.part.align.settings.rate then r else { r with
              faults := { r.faults with stall := true }, run := none, posValid := false,
              seqBase := false, asm := .hunting, recovery := 0 }
            { q.rig x with deltas := r.deltas } = new) ∧
          (w.contents.show'.rate = s.part.align.settings.rate → q.align.d = s.part.align.d) ∧
          (w.contents.show'.rate ≠ s.part.align.settings.rate →
            (let u := s.part.align
             s.part.rigA.posValid = true ∨ s.part.rigB.posValid = true ∨
               (u.d = none ∧ u.stale = false ∧ u.pendingSkew = none ∧ u.aligned = false) →
             q.align.d = none ∧ q.align.stale = false ∧ q.align.pendingSkew = none ∧
               q.align.aligned = false) ∧
            (let off := if w.contents.tc.enable = s.part.tc.settings.enable
               then s.part.tc.state = .off else w.contents.tc.enable = false
             (off → q.tc.state = .off) ∧
             (¬off → q.tc.state = .follow ∧ q.tc.fOut = none ∧ q.tc.cadence = 0 ∧
               q.tc.freewheelCount = 0))) ∧
          q.tc.followed = (w.contents.groups[w.contents.tc.leader]).home ∧
          (let now := if w.contents.preference = s.part.clock.preference then s.part.clock.current
             else ((w.contents.preference.toList.takeWhile (· != s.part.clock.current)).find? fun x =>
               s.part.usable x && s.part.restored x).getD s.part.clock.current
           q.clock.current = now ∧ (now ≠ s.part.clock.current →
             (q.link.notices[(4 : Fin 8)]).map Notice.detail = some (.clockChange now))) ∧
          ∀ g : Fin 12, q.watch.groups[g] = ⟨0, 0, 0, 0, false, false, true⟩))

/-- While the part is at work, the slot in state WRITING is exactly the slot of the work in flight, at
every step (R183, R186). -/
def Obligations.EveryStepKeepsTheStore : Prop :=
  ∀ s t : State, (s.part.atWork = true → s.part.store.Sound) → step s = .next t →
    t.part.atWork = true → t.part.store.Sound

/-- Asserting RESET, or losing power, ends the reply and the work in flight, releases OUT_LANE, TC_OUT and
ATTN, and keeps the slots and the directory; a slot being written stays WRITING (R149, R156, R172, R181,
R183, R186). From then on only the RESET pin and the supply do anything (the model's reading, assumption
log 7). -/
def Obligations.ResetAndPowerLossStopThePart : Prop :=
  (∀ s : State, ∀ c ∈ [Instr.resetAssert, .powerLoss],
    ∃ t, exec c s = .next t ∧ t.part.atWork = false ∧ t.part.outLane = none ∧ t.part.tcOut = none ∧
      t.part.attn = false ∧ t.part.drivesLink = false ∧ t.part.tally .a = false ∧
      t.part.tally .b = false ∧ t.part.store = { s.part.store with activity := .idle } ∧
      (c = .resetAssert → t.part.resetHeld = true ∧ t.part.powered = s.part.powered) ∧
      (c = .powerLoss → t.part.powered = false ∧ t.part.resetHeld = s.part.resetHeld)) ∧
  ∀ (c : Instr) (s : State), s.part.atWork = false →
    c ≠ .resetAssert → c ≠ .powerLoss → (∀ a r, c ≠ .resetRelease a r) → (∀ a r, c ≠ .powerUp a r) →
    exec c s = .next s

/-- Start-up, at the release of RESET and at power-up, by the boot table: reset values in every block,
WRITING slots DAMAGED, and a boot load of a VALID slot whose sum matches (R183, R190; that a part powered
up with RESET held waits for its release, and that a power-up begins a block, are the model's choices,
assumption log 24). -/
def Obligations.StartUpByTheBootTable : Prop :=
  ∀ (s : State) (a : BitVec 5) (b : BitVec 2),
    (∀ c, (c = Instr.resetRelease a b ∧ s.part.powered = true ∧ s.part.resetHeld = true) ∨
        (c = .powerUp a b ∧ s.part.powered = false ∧ s.part.resetHeld = false) →
      let n := s.part.panel
      let slots := s.part.store.slots.map fun k =>
        if k.state = .writing then { k with state := .damaged, stored := none } else k
      ∃ t, exec c s = .next t ∧ t.part.mode = .standby ∧ t.part.atWork = true ∧
        t.part.clock.current = .int ∧ t.part.blockPhase = 0 ∧
        Part.BootsTo (Part.afterReset a b 0 n.a.rawClosed n.b.rawClosed n.free.rawClosed
          { s.part.store with slots := slots }) t.part) ∧
    (s.part.powered = false → s.part.resetHeld = true →
      exec (.powerUp a b) s = .next { s with part := { s.part with powered := true } } ∧
      exec (.resetRelease a b) s = .next { s with part := { s.part with resetHeld := false } })

/-! ### The whole part -/

/-- Only requests, characters, resets and power change the configuration: no event of a clock, lane, panel
or timer changes the mode, a setting, the membership, the notice mask, the boot slot, a slot's LOCKED or
the straps (R24, R36, R96, R99, R102, R153, R166, R180, R189). -/
def Obligations.EventsKeepTheConfiguration : Prop :=
  ∀ (c : Instr) (s t : State), c.isEvent = true → exec c s = .next t → t.part.config = s.part.config

/-- `State.reset` meets every condition that the steps keep; its strap levels, open contacts and finished
start-up are the model's (assumption log 1, 2, 3). -/
def Obligations.ResetMeetsEveryCondition : Prop :=
  let p := State.reset.part
  p.atWork = true ∧ p.mode = .standby ∧ p.AlignedSound ∧ p.FollowsLeader ∧ p.align.SkewSound ∧
  p.GroupsSound ∧ p.SettingsInRange ∧ p.ClockSound ∧ p.rigA.Sound ∧ p.rigB.Sound ∧ p.MapSound ∧ p.store.Sound ∧
  p.outLane = some (List.replicate 48 0) ∧ p.rigA.faults = ⟨true, false, false, false, false⟩ ∧
  p.clock.preference = ⟨.laneA, .laneB, .int⟩ ∧ p.align.settings = ⟨.r25, 4, 1, 25⟩ ∧
  ∀ g, (p.group g).state = .settled ∧ (p.group g).source = .a
end

