-- ==== Sys2Proof/Laws/State.lean ====
section
/-! SUPPORT. What each update of the state leaves as it was, field by field, and what it writes. -/

namespace Sys2Proof.Machine

/-! ### raise -/

@[simp] theorem Part.raise_powered (p : Part) (d : NoticeDetail) : (p.raise d).powered = p.powered := rfl
@[simp] theorem Part.raise_resetHeld (p : Part) (d : NoticeDetail) : (p.raise d).resetHeld = p.resetHeld := rfl
@[simp] theorem Part.raise_blockPhase (p : Part) (d : NoticeDetail) : (p.raise d).blockPhase = p.blockPhase := rfl
@[simp] theorem Part.raise_handedOver (p : Part) (d : NoticeDetail) : (p.raise d).handedOver = p.handedOver := rfl
@[simp] theorem Part.raise_early (p : Part) (d : NoticeDetail) : (p.raise d).early = p.early := rfl
@[simp] theorem Part.raise_rigA (p : Part) (d : NoticeDetail) : (p.raise d).rigA = p.rigA := rfl
@[simp] theorem Part.raise_rigB (p : Part) (d : NoticeDetail) : (p.raise d).rigB = p.rigB := rfl
@[simp] theorem Part.raise_clock (p : Part) (d : NoticeDetail) : (p.raise d).clock = p.clock := rfl
@[simp] theorem Part.raise_align (p : Part) (d : NoticeDetail) : (p.raise d).align = p.align := rfl
@[simp] theorem Part.raise_map (p : Part) (d : NoticeDetail) : (p.raise d).map = p.map := rfl
@[simp] theorem Part.raise_watch (p : Part) (d : NoticeDetail) : (p.raise d).watch = p.watch := rfl
@[simp] theorem Part.raise_mode (p : Part) (d : NoticeDetail) : (p.raise d).mode = p.mode := rfl
@[simp] theorem Part.raise_groups (p : Part) (d : NoticeDetail) : (p.raise d).groups = p.groups := rfl
@[simp] theorem Part.raise_members (p : Part) (d : NoticeDetail) : (p.raise d).members = p.members := rfl
@[simp] theorem Part.raise_outLane (p : Part) (d : NoticeDetail) : (p.raise d).outLane = p.outLane := rfl
@[simp] theorem Part.raise_panel (p : Part) (d : NoticeDetail) : (p.raise d).panel = p.panel := rfl
@[simp] theorem Part.raise_tc (p : Part) (d : NoticeDetail) : (p.raise d).tc = p.tc := rfl
@[simp] theorem Part.raise_tcOut (p : Part) (d : NoticeDetail) : (p.raise d).tcOut = p.tcOut := rfl
@[simp] theorem Part.raise_store (p : Part) (d : NoticeDetail) : (p.raise d).store = p.store := rfl

/-! ### setRig -/

@[simp] theorem Part.setRig_powered (p : Part) (x : Rig) (r : RigPort) : (p.setRig x r).powered = p.powered := by cases x <;> rfl
@[simp] theorem Part.setRig_resetHeld (p : Part) (x : Rig) (r : RigPort) : (p.setRig x r).resetHeld = p.resetHeld := by cases x <;> rfl
@[simp] theorem Part.setRig_blockPhase (p : Part) (x : Rig) (r : RigPort) : (p.setRig x r).blockPhase = p.blockPhase := by cases x <;> rfl
@[simp] theorem Part.setRig_handedOver (p : Part) (x : Rig) (r : RigPort) : (p.setRig x r).handedOver = p.handedOver := by cases x <;> rfl
@[simp] theorem Part.setRig_early (p : Part) (x : Rig) (r : RigPort) : (p.setRig x r).early = p.early := by cases x <;> rfl
@[simp] theorem Part.setRig_clock (p : Part) (x : Rig) (r : RigPort) : (p.setRig x r).clock = p.clock := by cases x <;> rfl
@[simp] theorem Part.setRig_align (p : Part) (x : Rig) (r : RigPort) : (p.setRig x r).align = p.align := by cases x <;> rfl
@[simp] theorem Part.setRig_map (p : Part) (x : Rig) (r : RigPort) : (p.setRig x r).map = p.map := by cases x <;> rfl
@[simp] theorem Part.setRig_watch (p : Part) (x : Rig) (r : RigPort) : (p.setRig x r).watch = p.watch := by cases x <;> rfl
@[simp] theorem Part.setRig_mode (p : Part) (x : Rig) (r : RigPort) : (p.setRig x r).mode = p.mode := by cases x <;> rfl
@[simp] theorem Part.setRig_groups (p : Part) (x : Rig) (r : RigPort) : (p.setRig x r).groups = p.groups := by cases x <;> rfl
@[simp] theorem Part.setRig_members (p : Part) (x : Rig) (r : RigPort) : (p.setRig x r).members = p.members := by cases x <;> rfl
@[simp] theorem Part.setRig_outLane (p : Part) (x : Rig) (r : RigPort) : (p.setRig x r).outLane = p.outLane := by cases x <;> rfl
@[simp] theorem Part.setRig_panel (p : Part) (x : Rig) (r : RigPort) : (p.setRig x r).panel = p.panel := by cases x <;> rfl
@[simp] theorem Part.setRig_tc (p : Part) (x : Rig) (r : RigPort) : (p.setRig x r).tc = p.tc := by cases x <;> rfl
@[simp] theorem Part.setRig_tcOut (p : Part) (x : Rig) (r : RigPort) : (p.setRig x r).tcOut = p.tcOut := by cases x <;> rfl
@[simp] theorem Part.setRig_link (p : Part) (x : Rig) (r : RigPort) : (p.setRig x r).link = p.link := by cases x <;> rfl
@[simp] theorem Part.setRig_store (p : Part) (x : Rig) (r : RigPort) : (p.setRig x r).store = p.store := by cases x <;> rfl

/-! ### setGroup -/

@[simp] theorem Part.setGroup_powered (p : Part) (g : Fin 12) (r : Group) : (p.setGroup g r).powered = p.powered := rfl
@[simp] theorem Part.setGroup_resetHeld (p : Part) (g : Fin 12) (r : Group) : (p.setGroup g r).resetHeld = p.resetHeld := rfl
@[simp] theorem Part.setGroup_blockPhase (p : Part) (g : Fin 12) (r : Group) : (p.setGroup g r).blockPhase = p.blockPhase := rfl
@[simp] theorem Part.setGroup_handedOver (p : Part) (g : Fin 12) (r : Group) : (p.setGroup g r).handedOver = p.handedOver := rfl
@[simp] theorem Part.setGroup_early (p : Part) (g : Fin 12) (r : Group) : (p.setGroup g r).early = p.early := rfl
@[simp] theorem Part.setGroup_rigA (p : Part) (g : Fin 12) (r : Group) : (p.setGroup g r).rigA = p.rigA := rfl
@[simp] theorem Part.setGroup_rigB (p : Part) (g : Fin 12) (r : Group) : (p.setGroup g r).rigB = p.rigB := rfl
@[simp] theorem Part.setGroup_clock (p : Part) (g : Fin 12) (r : Group) : (p.setGroup g r).clock = p.clock := rfl
@[simp] theorem Part.setGroup_align (p : Part) (g : Fin 12) (r : Group) : (p.setGroup g r).align = p.align := rfl
@[simp] theorem Part.setGroup_map (p : Part) (g : Fin 12) (r : Group) : (p.setGroup g r).map = p.map := rfl
@[simp] theorem Part.setGroup_watch (p : Part) (g : Fin 12) (r : Group) : (p.setGroup g r).watch = p.watch := rfl
@[simp] theorem Part.setGroup_mode (p : Part) (g : Fin 12) (r : Group) : (p.setGroup g r).mode = p.mode := rfl
@[simp] theorem Part.setGroup_members (p : Part) (g : Fin 12) (r : Group) : (p.setGroup g r).members = p.members := rfl
@[simp] theorem Part.setGroup_outLane (p : Part) (g : Fin 12) (r : Group) : (p.setGroup g r).outLane = p.outLane := rfl
@[simp] theorem Part.setGroup_panel (p : Part) (g : Fin 12) (r : Group) : (p.setGroup g r).panel = p.panel := rfl
@[simp] theorem Part.setGroup_tc (p : Part) (g : Fin 12) (r : Group) : (p.setGroup g r).tc = p.tc := rfl
@[simp] theorem Part.setGroup_tcOut (p : Part) (g : Fin 12) (r : Group) : (p.setGroup g r).tcOut = p.tcOut := rfl
@[simp] theorem Part.setGroup_link (p : Part) (g : Fin 12) (r : Group) : (p.setGroup g r).link = p.link := rfl
@[simp] theorem Part.setGroup_store (p : Part) (g : Fin 12) (r : Group) : (p.setGroup g r).store = p.store := rfl

/-! ### modGroup -/

@[simp] theorem Part.modGroup_powered (p : Part) (g : Fin 12) (f : Group → Group) : (p.modGroup g f).powered = p.powered := rfl
@[simp] theorem Part.modGroup_resetHeld (p : Part) (g : Fin 12) (f : Group → Group) : (p.modGroup g f).resetHeld = p.resetHeld := rfl
@[simp] theorem Part.modGroup_blockPhase (p : Part) (g : Fin 12) (f : Group → Group) : (p.modGroup g f).blockPhase = p.blockPhase := rfl
@[simp] theorem Part.modGroup_handedOver (p : Part) (g : Fin 12) (f : Group → Group) : (p.modGroup g f).handedOver = p.handedOver := rfl
@[simp] theorem Part.modGroup_early (p : Part) (g : Fin 12) (f : Group → Group) : (p.modGroup g f).early = p.early := rfl
@[simp] theorem Part.modGroup_rigA (p : Part) (g : Fin 12) (f : Group → Group) : (p.modGroup g f).rigA = p.rigA := rfl
@[simp] theorem Part.modGroup_rigB (p : Part) (g : Fin 12) (f : Group → Group) : (p.modGroup g f).rigB = p.rigB := rfl
@[simp] theorem Part.modGroup_clock (p : Part) (g : Fin 12) (f : Group → Group) : (p.modGroup g f).clock = p.clock := rfl
@[simp] theorem Part.modGroup_align (p : Part) (g : Fin 12) (f : Group → Group) : (p.modGroup g f).align = p.align := rfl
@[simp] theorem Part.modGroup_map (p : Part) (g : Fin 12) (f : Group → Group) : (p.modGroup g f).map = p.map := rfl
@[simp] theorem Part.modGroup_watch (p : Part) (g : Fin 12) (f : Group → Group) : (p.modGroup g f).watch = p.watch := rfl
@[simp] theorem Part.modGroup_mode (p : Part) (g : Fin 12) (f : Group → Group) : (p.modGroup g f).mode = p.mode := rfl
@[simp] theorem Part.modGroup_members (p : Part) (g : Fin 12) (f : Group → Group) : (p.modGroup g f).members = p.members := rfl
@[simp] theorem Part.modGroup_outLane (p : Part) (g : Fin 12) (f : Group → Group) : (p.modGroup g f).outLane = p.outLane := rfl
@[simp] theorem Part.modGroup_panel (p : Part) (g : Fin 12) (f : Group → Group) : (p.modGroup g f).panel = p.panel := rfl
@[simp] theorem Part.modGroup_tc (p : Part) (g : Fin 12) (f : Group → Group) : (p.modGroup g f).tc = p.tc := rfl
@[simp] theorem Part.modGroup_tcOut (p : Part) (g : Fin 12) (f : Group → Group) : (p.modGroup g f).tcOut = p.tcOut := rfl
@[simp] theorem Part.modGroup_link (p : Part) (g : Fin 12) (f : Group → Group) : (p.modGroup g f).link = p.link := rfl
@[simp] theorem Part.modGroup_store (p : Part) (g : Fin 12) (f : Group → Group) : (p.modGroup g f).store = p.store := rfl

/-! ### modGroups -/

@[simp] theorem Part.modGroups_powered (p : Part) (f : Group → Group) : (p.modGroups f).powered = p.powered := rfl
@[simp] theorem Part.modGroups_resetHeld (p : Part) (f : Group → Group) : (p.modGroups f).resetHeld = p.resetHeld := rfl
@[simp] theorem Part.modGroups_blockPhase (p : Part) (f : Group → Group) : (p.modGroups f).blockPhase = p.blockPhase := rfl
@[simp] theorem Part.modGroups_handedOver (p : Part) (f : Group → Group) : (p.modGroups f).handedOver = p.handedOver := rfl
@[simp] theorem Part.modGroups_early (p : Part) (f : Group → Group) : (p.modGroups f).early = p.early := rfl
@[simp] theorem Part.modGroups_rigA (p : Part) (f : Group → Group) : (p.modGroups f).rigA = p.rigA := rfl
@[simp] theorem Part.modGroups_rigB (p : Part) (f : Group → Group) : (p.modGroups f).rigB = p.rigB := rfl
@[simp] theorem Part.modGroups_clock (p : Part) (f : Group → Group) : (p.modGroups f).clock = p.clock := rfl
@[simp] theorem Part.modGroups_align (p : Part) (f : Group → Group) : (p.modGroups f).align = p.align := rfl
@[simp] theorem Part.modGroups_map (p : Part) (f : Group → Group) : (p.modGroups f).map = p.map := rfl
@[simp] theorem Part.modGroups_watch (p : Part) (f : Group → Group) : (p.modGroups f).watch = p.watch := rfl
@[simp] theorem Part.modGroups_mode (p : Part) (f : Group → Group) : (p.modGroups f).mode = p.mode := rfl
@[simp] theorem Part.modGroups_members (p : Part) (f : Group → Group) : (p.modGroups f).members = p.members := rfl
@[simp] theorem Part.modGroups_outLane (p : Part) (f : Group → Group) : (p.modGroups f).outLane = p.outLane := rfl
@[simp] theorem Part.modGroups_panel (p : Part) (f : Group → Group) : (p.modGroups f).panel = p.panel := rfl
@[simp] theorem Part.modGroups_tc (p : Part) (f : Group → Group) : (p.modGroups f).tc = p.tc := rfl
@[simp] theorem Part.modGroups_tcOut (p : Part) (f : Group → Group) : (p.modGroups f).tcOut = p.tcOut := rfl
@[simp] theorem Part.modGroups_link (p : Part) (f : Group → Group) : (p.modGroups f).link = p.link := rfl
@[simp] theorem Part.modGroups_store (p : Part) (f : Group → Group) : (p.modGroups f).store = p.store := rfl

/-! ### setStore -/

@[simp] theorem Part.setStore_powered (p : Part) (s : Store) : (p.setStore s).powered = p.powered := rfl
@[simp] theorem Part.setStore_resetHeld (p : Part) (s : Store) : (p.setStore s).resetHeld = p.resetHeld := rfl
@[simp] theorem Part.setStore_blockPhase (p : Part) (s : Store) : (p.setStore s).blockPhase = p.blockPhase := rfl
@[simp] theorem Part.setStore_handedOver (p : Part) (s : Store) : (p.setStore s).handedOver = p.handedOver := rfl
@[simp] theorem Part.setStore_early (p : Part) (s : Store) : (p.setStore s).early = p.early := rfl
@[simp] theorem Part.setStore_rigA (p : Part) (s : Store) : (p.setStore s).rigA = p.rigA := rfl
@[simp] theorem Part.setStore_rigB (p : Part) (s : Store) : (p.setStore s).rigB = p.rigB := rfl
@[simp] theorem Part.setStore_clock (p : Part) (s : Store) : (p.setStore s).clock = p.clock := rfl
@[simp] theorem Part.setStore_align (p : Part) (s : Store) : (p.setStore s).align = p.align := rfl
@[simp] theorem Part.setStore_map (p : Part) (s : Store) : (p.setStore s).map = p.map := rfl
@[simp] theorem Part.setStore_watch (p : Part) (s : Store) : (p.setStore s).watch = p.watch := rfl
@[simp] theorem Part.setStore_mode (p : Part) (s : Store) : (p.setStore s).mode = p.mode := rfl
@[simp] theorem Part.setStore_groups (p : Part) (s : Store) : (p.setStore s).groups = p.groups := rfl
@[simp] theorem Part.setStore_members (p : Part) (s : Store) : (p.setStore s).members = p.members := rfl
@[simp] theorem Part.setStore_outLane (p : Part) (s : Store) : (p.setStore s).outLane = p.outLane := rfl
@[simp] theorem Part.setStore_panel (p : Part) (s : Store) : (p.setStore s).panel = p.panel := rfl
@[simp] theorem Part.setStore_tc (p : Part) (s : Store) : (p.setStore s).tc = p.tc := rfl
@[simp] theorem Part.setStore_tcOut (p : Part) (s : Store) : (p.setStore s).tcOut = p.tcOut := rfl
@[simp] theorem Part.setStore_link (p : Part) (s : Store) : (p.setStore s).link = p.link := rfl

/-! ### setRx -/

@[simp] theorem Part.setRx_powered (p : Part) (r : Receiver) : (p.setRx r).powered = p.powered := rfl
@[simp] theorem Part.setRx_resetHeld (p : Part) (r : Receiver) : (p.setRx r).resetHeld = p.resetHeld := rfl
@[simp] theorem Part.setRx_blockPhase (p : Part) (r : Receiver) : (p.setRx r).blockPhase = p.blockPhase := rfl
@[simp] theorem Part.setRx_handedOver (p : Part) (r : Receiver) : (p.setRx r).handedOver = p.handedOver := rfl
@[simp] theorem Part.setRx_early (p : Part) (r : Receiver) : (p.setRx r).early = p.early := rfl
@[simp] theorem Part.setRx_rigA (p : Part) (r : Receiver) : (p.setRx r).rigA = p.rigA := rfl
@[simp] theorem Part.setRx_rigB (p : Part) (r : Receiver) : (p.setRx r).rigB = p.rigB := rfl
@[simp] theorem Part.setRx_clock (p : Part) (r : Receiver) : (p.setRx r).clock = p.clock := rfl
@[simp] theorem Part.setRx_align (p : Part) (r : Receiver) : (p.setRx r).align = p.align := rfl
@[simp] theorem Part.setRx_map (p : Part) (r : Receiver) : (p.setRx r).map = p.map := rfl
@[simp] theorem Part.setRx_watch (p : Part) (r : Receiver) : (p.setRx r).watch = p.watch := rfl
@[simp] theorem Part.setRx_mode (p : Part) (r : Receiver) : (p.setRx r).mode = p.mode := rfl
@[simp] theorem Part.setRx_groups (p : Part) (r : Receiver) : (p.setRx r).groups = p.groups := rfl
@[simp] theorem Part.setRx_members (p : Part) (r : Receiver) : (p.setRx r).members = p.members := rfl
@[simp] theorem Part.setRx_outLane (p : Part) (r : Receiver) : (p.setRx r).outLane = p.outLane := rfl
@[simp] theorem Part.setRx_panel (p : Part) (r : Receiver) : (p.setRx r).panel = p.panel := rfl
@[simp] theorem Part.setRx_tc (p : Part) (r : Receiver) : (p.setRx r).tc = p.tc := rfl
@[simp] theorem Part.setRx_tcOut (p : Part) (r : Receiver) : (p.setRx r).tcOut = p.tcOut := rfl
@[simp] theorem Part.setRx_store (p : Part) (r : Receiver) : (p.setRx r).store = p.store := rfl

/-! ### setReply -/

@[simp] theorem Part.setReply_powered (p : Part) (r : Option Reply) : (p.setReply r).powered = p.powered := rfl
@[simp] theorem Part.setReply_resetHeld (p : Part) (r : Option Reply) : (p.setReply r).resetHeld = p.resetHeld := rfl
@[simp] theorem Part.setReply_blockPhase (p : Part) (r : Option Reply) : (p.setReply r).blockPhase = p.blockPhase := rfl
@[simp] theorem Part.setReply_handedOver (p : Part) (r : Option Reply) : (p.setReply r).handedOver = p.handedOver := rfl
@[simp] theorem Part.setReply_early (p : Part) (r : Option Reply) : (p.setReply r).early = p.early := rfl
@[simp] theorem Part.setReply_rigA (p : Part) (r : Option Reply) : (p.setReply r).rigA = p.rigA := rfl
@[simp] theorem Part.setReply_rigB (p : Part) (r : Option Reply) : (p.setReply r).rigB = p.rigB := rfl
@[simp] theorem Part.setReply_clock (p : Part) (r : Option Reply) : (p.setReply r).clock = p.clock := rfl
@[simp] theorem Part.setReply_align (p : Part) (r : Option Reply) : (p.setReply r).align = p.align := rfl
@[simp] theorem Part.setReply_map (p : Part) (r : Option Reply) : (p.setReply r).map = p.map := rfl
@[simp] theorem Part.setReply_watch (p : Part) (r : Option Reply) : (p.setReply r).watch = p.watch := rfl
@[simp] theorem Part.setReply_mode (p : Part) (r : Option Reply) : (p.setReply r).mode = p.mode := rfl
@[simp] theorem Part.setReply_groups (p : Part) (r : Option Reply) : (p.setReply r).groups = p.groups := rfl
@[simp] theorem Part.setReply_members (p : Part) (r : Option Reply) : (p.setReply r).members = p.members := rfl
@[simp] theorem Part.setReply_outLane (p : Part) (r : Option Reply) : (p.setReply r).outLane = p.outLane := rfl
@[simp] theorem Part.setReply_panel (p : Part) (r : Option Reply) : (p.setReply r).panel = p.panel := rfl
@[simp] theorem Part.setReply_tc (p : Part) (r : Option Reply) : (p.setReply r).tc = p.tc := rfl
@[simp] theorem Part.setReply_tcOut (p : Part) (r : Option Reply) : (p.setReply r).tcOut = p.tcOut := rfl
@[simp] theorem Part.setReply_store (p : Part) (r : Option Reply) : (p.setReply r).store = p.store := rfl

/-! ### linkError -/

@[simp] theorem Part.linkError_powered (p : Part) : (p.linkError).powered = p.powered := rfl
@[simp] theorem Part.linkError_resetHeld (p : Part) : (p.linkError).resetHeld = p.resetHeld := rfl
@[simp] theorem Part.linkError_blockPhase (p : Part) : (p.linkError).blockPhase = p.blockPhase := rfl
@[simp] theorem Part.linkError_handedOver (p : Part) : (p.linkError).handedOver = p.handedOver := rfl
@[simp] theorem Part.linkError_early (p : Part) : (p.linkError).early = p.early := rfl
@[simp] theorem Part.linkError_rigA (p : Part) : (p.linkError).rigA = p.rigA := rfl
@[simp] theorem Part.linkError_rigB (p : Part) : (p.linkError).rigB = p.rigB := rfl
@[simp] theorem Part.linkError_clock (p : Part) : (p.linkError).clock = p.clock := rfl
@[simp] theorem Part.linkError_align (p : Part) : (p.linkError).align = p.align := rfl
@[simp] theorem Part.linkError_map (p : Part) : (p.linkError).map = p.map := rfl
@[simp] theorem Part.linkError_watch (p : Part) : (p.linkError).watch = p.watch := rfl
@[simp] theorem Part.linkError_mode (p : Part) : (p.linkError).mode = p.mode := rfl
@[simp] theorem Part.linkError_groups (p : Part) : (p.linkError).groups = p.groups := rfl
@[simp] theorem Part.linkError_members (p : Part) : (p.linkError).members = p.members := rfl
@[simp] theorem Part.linkError_outLane (p : Part) : (p.linkError).outLane = p.outLane := rfl
@[simp] theorem Part.linkError_panel (p : Part) : (p.linkError).panel = p.panel := rfl
@[simp] theorem Part.linkError_tc (p : Part) : (p.linkError).tc = p.tc := rfl
@[simp] theorem Part.linkError_tcOut (p : Part) : (p.linkError).tcOut = p.tcOut := rfl
@[simp] theorem Part.linkError_store (p : Part) : (p.linkError).store = p.store := rfl

/-! ### restartRuns -/

@[simp] theorem Part.restartRuns_powered (p : Part) (gs : List (Fin 12)) : (p.restartRuns gs).powered = p.powered := rfl
@[simp] theorem Part.restartRuns_resetHeld (p : Part) (gs : List (Fin 12)) : (p.restartRuns gs).resetHeld = p.resetHeld := rfl
@[simp] theorem Part.restartRuns_blockPhase (p : Part) (gs : List (Fin 12)) : (p.restartRuns gs).blockPhase = p.blockPhase := rfl
@[simp] theorem Part.restartRuns_handedOver (p : Part) (gs : List (Fin 12)) : (p.restartRuns gs).handedOver = p.handedOver := rfl
@[simp] theorem Part.restartRuns_early (p : Part) (gs : List (Fin 12)) : (p.restartRuns gs).early = p.early := rfl
@[simp] theorem Part.restartRuns_rigA (p : Part) (gs : List (Fin 12)) : (p.restartRuns gs).rigA = p.rigA := rfl
@[simp] theorem Part.restartRuns_rigB (p : Part) (gs : List (Fin 12)) : (p.restartRuns gs).rigB = p.rigB := rfl
@[simp] theorem Part.restartRuns_clock (p : Part) (gs : List (Fin 12)) : (p.restartRuns gs).clock = p.clock := rfl
@[simp] theorem Part.restartRuns_align (p : Part) (gs : List (Fin 12)) : (p.restartRuns gs).align = p.align := rfl
@[simp] theorem Part.restartRuns_map (p : Part) (gs : List (Fin 12)) : (p.restartRuns gs).map = p.map := rfl
@[simp] theorem Part.restartRuns_mode (p : Part) (gs : List (Fin 12)) : (p.restartRuns gs).mode = p.mode := rfl
@[simp] theorem Part.restartRuns_groups (p : Part) (gs : List (Fin 12)) : (p.restartRuns gs).groups = p.groups := rfl
@[simp] theorem Part.restartRuns_members (p : Part) (gs : List (Fin 12)) : (p.restartRuns gs).members = p.members := rfl
@[simp] theorem Part.restartRuns_outLane (p : Part) (gs : List (Fin 12)) : (p.restartRuns gs).outLane = p.outLane := rfl
@[simp] theorem Part.restartRuns_panel (p : Part) (gs : List (Fin 12)) : (p.restartRuns gs).panel = p.panel := rfl
@[simp] theorem Part.restartRuns_tc (p : Part) (gs : List (Fin 12)) : (p.restartRuns gs).tc = p.tc := rfl
@[simp] theorem Part.restartRuns_tcOut (p : Part) (gs : List (Fin 12)) : (p.restartRuns gs).tcOut = p.tcOut := rfl
@[simp] theorem Part.restartRuns_link (p : Part) (gs : List (Fin 12)) : (p.restartRuns gs).link = p.link := rfl
@[simp] theorem Part.restartRuns_store (p : Part) (gs : List (Fin 12)) : (p.restartRuns gs).store = p.store := rfl

/-! ### setContacts -/

@[simp] theorem Part.setContacts_powered (p : Part) (a b c : Bool) : (p.setContacts a b c).powered = p.powered := rfl
@[simp] theorem Part.setContacts_resetHeld (p : Part) (a b c : Bool) : (p.setContacts a b c).resetHeld = p.resetHeld := rfl
@[simp] theorem Part.setContacts_blockPhase (p : Part) (a b c : Bool) : (p.setContacts a b c).blockPhase = p.blockPhase := rfl
@[simp] theorem Part.setContacts_handedOver (p : Part) (a b c : Bool) : (p.setContacts a b c).handedOver = p.handedOver := rfl
@[simp] theorem Part.setContacts_early (p : Part) (a b c : Bool) : (p.setContacts a b c).early = p.early := rfl
@[simp] theorem Part.setContacts_rigA (p : Part) (a b c : Bool) : (p.setContacts a b c).rigA = p.rigA := rfl
@[simp] theorem Part.setContacts_rigB (p : Part) (a b c : Bool) : (p.setContacts a b c).rigB = p.rigB := rfl
@[simp] theorem Part.setContacts_clock (p : Part) (a b c : Bool) : (p.setContacts a b c).clock = p.clock := rfl
@[simp] theorem Part.setContacts_align (p : Part) (a b c : Bool) : (p.setContacts a b c).align = p.align := rfl
@[simp] theorem Part.setContacts_map (p : Part) (a b c : Bool) : (p.setContacts a b c).map = p.map := rfl
@[simp] theorem Part.setContacts_watch (p : Part) (a b c : Bool) : (p.setContacts a b c).watch = p.watch := rfl
@[simp] theorem Part.setContacts_mode (p : Part) (a b c : Bool) : (p.setContacts a b c).mode = p.mode := rfl
@[simp] theorem Part.setContacts_groups (p : Part) (a b c : Bool) : (p.setContacts a b c).groups = p.groups := rfl
@[simp] theorem Part.setContacts_members (p : Part) (a b c : Bool) : (p.setContacts a b c).members = p.members := rfl
@[simp] theorem Part.setContacts_outLane (p : Part) (a b c : Bool) : (p.setContacts a b c).outLane = p.outLane := rfl
@[simp] theorem Part.setContacts_tc (p : Part) (a b c : Bool) : (p.setContacts a b c).tc = p.tc := rfl
@[simp] theorem Part.setContacts_tcOut (p : Part) (a b c : Bool) : (p.setContacts a b c).tcOut = p.tcOut := rfl
@[simp] theorem Part.setContacts_link (p : Part) (a b c : Bool) : (p.setContacts a b c).link = p.link := rfl
@[simp] theorem Part.setContacts_store (p : Part) (a b c : Bool) : (p.setContacts a b c).store = p.store := rfl

/-! ### What they write -/

@[simp] theorem Part.rig_a (p : Part) : p.rig .a = p.rigA := rfl
@[simp] theorem Part.rig_b (p : Part) : p.rig .b = p.rigB := rfl

@[simp] theorem Part.rig_setRig_same (p : Part) (x : Rig) (r : RigPort) : (p.setRig x r).rig x = r := by
  cases x <;> rfl

theorem Part.rig_setRig_other (p : Part) {x y : Rig} (r : RigPort) (h : y ≠ x) :
    (p.setRig x r).rig y = p.rig y := by
  cases x <;> cases y <;> first | rfl | exact absurd rfl h

@[simp] theorem Part.group_setGroup_same (p : Part) (g : Fin 12) (r : Group) :
    (p.setGroup g r).group g = r := by
  simp [Part.group, Part.setGroup]

theorem Part.group_setGroup_other (p : Part) {g h : Fin 12} (r : Group) (hne : h ≠ g) :
    (p.setGroup g r).group h = p.group h := by
  have : (g : Nat) ≠ h := fun e => hne (Fin.ext e.symm)
  simp [Part.group, Part.setGroup, this]

theorem Part.group_setGroup (p : Part) (g h : Fin 12) (r : Group) :
    (p.setGroup g r).group h = if h = g then r else p.group h := by
  split
  · next e => subst e; exact p.group_setGroup_same h r
  · next e => exact p.group_setGroup_other r e

/-- A list of groups rewritten one by one: each listed group once, the others as they were. -/
theorem foldl_set_get (f : Group → Group) (gs : List (Fin 12)) (v : Vector Group 12) (h : Fin 12)
    (nd : gs.Nodup) :
    (gs.foldl (fun (v : Vector Group 12) (g : Fin 12) => v.set g (f v[g])) v)[h] =
      if h ∈ gs then f v[h] else v[h] := by
  induction gs generalizing v with
  | nil => simp
  | cons g gs ih =>
    rw [List.foldl_cons, ih _ (List.nodup_cons.mp nd).2]
    have hg : g ∉ gs := (List.nodup_cons.mp nd).1
    by_cases e : h = g
    · subst e; simp [hg]
    · have e' : (g : Nat) ≠ h := fun e' => e (Fin.ext e'.symm)
      simp [e, e']

theorem allGroups_nodup : allGroups.Nodup := by decide

theorem mem_allGroups (g : Fin 12) : g ∈ allGroups := by revert g; decide

@[simp] theorem Part.group_modGroups (p : Part) (f : Group → Group) (g : Fin 12) :
    (p.modGroups f).group g = f (p.group g) := by
  simp only [Part.group, Part.modGroups]
  exact (foldl_set_get f allGroups p.groups g allGroups_nodup).trans (if_pos (mem_allGroups g))

/-- A kind's entry after a raise of that kind (R178). -/
theorem Link.raise_same (l : Link) (d : NoticeDetail) :
    (l.raise d).notices[d.kind.index] = some ⟨d, match l.notices[d.kind.index] with
      | some old => bump 255 old.count
      | none => 1⟩ := by
  cases h : l.notices[d.kind.index] <;> simp_all [Link.raise]

/-- The other kinds' entries after a raise (R178). -/
theorem Link.raise_other (l : Link) (d : NoticeDetail) (k : Fin 8) (h : k ≠ d.kind.index) :
    (l.raise d).notices[k] = l.notices[k] := by
  have : (d.kind.index : Nat) ≠ k := fun e => h (Fin.ext e.symm)
  simp [Link.raise, this]

end Sys2Proof.Machine
end

