-- ==== Sys2Proof/Laws/Arrivals.lean ====
section
/-! SUPPORT. What an arrival at a Rig Port can do: the port takes it, an ALIGN delta may join either port,
the offset and the aligned flag may follow, the generator may leave FOLLOW, and RIG_CHANGE may be
raised. And when a block boundary within a sample period does nothing. -/

namespace Sys2Proof.Machine

/-- A RIG_CHANGE test changes the notice set alone. -/
theorem Part.raiseRigChange_eq (before p : Part) :
    ∃ n, Part.raiseRigChange before p = { p with link := { p.link with notices := n } } := by
  unfold Part.raiseRigChange
  split
  · exact ⟨_, rfl⟩
  · exact ⟨_, rfl⟩

/-- A port that may have gained an ALIGN delta. -/
def RigPort.MaybeAlign (r r' : RigPort) : Prop := r' = r ∨ r' = r.setAlignDelta

/-- Judging the flag leaves it sound, and touches nothing but it, the ALIGN deltas and the notices. -/
theorem Part.judgeAligned_eq (p : Part) :
    ∃ n a b, p.rigA.MaybeAlign a ∧ p.rigB.MaybeAlign b ∧
      p.judgeAligned = { p with
        align := { p.align with aligned := p.align.inStep }, rigA := a, rigB := b,
        link := { p.link with notices := n } } := by
  unfold Part.judgeAligned
  simp only []
  split
  · next h => exact ⟨p.link.notices, p.rigA, p.rigB, .inl rfl, .inl rfl, by rw [h]⟩
  · obtain ⟨n, hn⟩ := Part.raiseRigChange_eq p
      { p with
        align := { p.align with aligned := p.align.inStep },
        rigA := p.rigA.setAlignDelta, rigB := p.rigB.setAlignDelta }
    exact ⟨n, _, _, .inr rfl, .inr rfl, hn⟩

theorem Part.judgeAligned_sound (p : Part) : p.judgeAligned.AlignedSound := by
  obtain ⟨n, a, b, -, -, h⟩ := p.judgeAligned_eq
  rw [h]
  rfl

/-- The Alignment Unit's share of a rig's arrival: nothing, or the loss of the offset and the flag's
judgement. -/
theorem Part.offsetAfter_eq (before : Part) (x : Rig) (p : Part) :
    ∃ n a b u, p.rigA.MaybeAlign a ∧ p.rigB.MaybeAlign b ∧
      Part.offsetAfter before x p =
        { p with align := u, rigA := a, rigB := b, link := { p.link with notices := n } } ∧
      (u = p.align ∨ u = { p.align with d := none, stale := false, pendingSkew := none, aligned := false }) ∧
      ((before.rig x).posValid = true → (p.rig x).posValid = false →
        u = { p.align with d := none, stale := false, pendingSkew := none, aligned := false }) := by
  unfold Part.offsetAfter
  split
  · obtain ⟨n, a, b, ha, hb, h⟩ := Part.judgeAligned_eq
      { p with align := { p.align with d := none, stale := false, pendingSkew := none } }
    exact ⟨n, a, b, _, ha, hb, h, .inr rfl, fun _ _ => rfl⟩
  · next h =>
    refine ⟨p.link.notices, p.rigA, p.rigB, p.align, .inl rfl, .inl rfl, rfl, .inl rfl, fun h1 h2 => ?_⟩
    exact absurd (by simp [h1, h2]) h

/-- The generator's share of a rig's arrival: nothing, or FREEWHEEL. -/
theorem Part.freewheelAfter_eq (before : Part) (x : Rig) (p : Part) :
    Part.freewheelAfter before x p = p ∨
      Part.freewheelAfter before x p = { p with tc := p.tc.enterFreewheel } := by
  unfold Part.freewheelAfter
  simp only []
  split
  · exact .inr rfl
  · exact .inl rfl

/-- Everything an arrival at rig `x`'s port can do, before the Clock Unit and the judge take it. -/
theorem Part.rigEvent_eq (p : Part) (x : Rig) (f : RigPort → RigPort) :
    ∃ n a b u t, ((p.setRig x (f (p.rig x))).rigA.MaybeAlign a) ∧
      ((p.setRig x (f (p.rig x))).rigB.MaybeAlign b) ∧
      p.rigEvent x f =
        { p with rigA := a, rigB := b, align := u, tc := t, link := { p.link with notices := n } } ∧
      (t = p.tc ∨ t = p.tc.enterFreewheel) ∧
      (u = p.align ∨ u = { p.align with d := none, stale := false, pendingSkew := none, aligned := false }) ∧
      ((p.rig x).posValid = true → (f (p.rig x)).posValid = false →
        u = { p.align with d := none, stale := false, pendingSkew := none, aligned := false }) := by
  obtain ⟨n₁, h₁⟩ := Part.raiseRigChange_eq p (p.setRig x (f (p.rig x)))
  obtain ⟨n, a, b, u, ha, hb, h, hu, hv⟩ := Part.offsetAfter_eq p x (p.rigArrival x f)
  have e : p.rigArrival x f =
      { p.setRig x (f (p.rig x)) with link := { p.link with notices := n₁ } } := by
    refine h₁.trans ?_
    cases x <;> rfl
  rw [e] at h ha hb hu hv
  have hq : Part.offsetAfter p x (p.rigArrival x f) =
      { p with rigA := a, rigB := b, align := u, link := { p.link with notices := n } } := by
    rw [e, h]
    cases x <;> rfl
  have hu' : u = p.align ∨
      u = { p.align with d := none, stale := false, pendingSkew := none, aligned := false } := by
    cases x <;> exact hu
  have hv' : (p.rig x).posValid = true → (f (p.rig x)).posValid = false →
      u = { p.align with d := none, stale := false, pendingSkew := none, aligned := false } := by
    cases x <;> exact hv
  unfold Part.rigEvent
  rcases Part.freewheelAfter_eq p x (Part.offsetAfter p x (p.rigArrival x f)) with k | k <;> rw [k, hq]
  · exact ⟨n, a, b, u, p.tc, ha, hb, rfl, .inl rfl, hu', hv'⟩
  · exact ⟨n, a, b, u, _, ha, hb, rfl, .inr rfl, hu', hv'⟩

/-! ### The block boundary within a sample period -/

/-- No contact is due, so none is taken (R135). -/
theorem Part.takeContacts_eq_self (p : Part) (cs : List Contact) (h : ∀ c, (p.panel.get c).change ≠ 10) :
    p.takeContacts cs = p := by
  have one : ∀ c, (p.contactClosure c).contactOpening c = p := fun c => by
    simp [Part.contactClosure, Part.contactOpening, PanelContact.closureDue, PanelContact.openingDue, h c]
  induction cs with
  | nil => rfl
  | cons c cs ih => rw [Part.takeContacts, List.foldl_cons, one c]; exact ih

/-- Outside its block's 48th sample period a boundary within the period does nothing (R46, R135). -/
theorem Part.boundary_eq_self (p : Part) (o : Orders) (h : p.blockPhase ≠ 48)
    (hc : ∀ c, (p.panel.get c).change ≠ 10) : p.boundary o = p := by
  unfold Part.boundary Part.blockCompletion
  rw [if_neg h, Part.takeContacts_eq_self p _ hc]

/-- What is read with another skew keeps the skew in effect (R47). -/
@[simp] theorem Part.readWith_s (p : Part) (s : Int) (f : Part → Part) :
    (p.readWith s f).align.s = p.align.s := rfl

end Sys2Proof.Machine
end

