-- ==== Sys2Proof/Laws/Link.lean ====
section
/-! SUPPORT. What a request row does: for a unit that hears it, the owning block's answer on the part as it
stands, with the reply; for a broadcast, the same without reply where it is honoured. -/

namespace Sys2Proof.Machine

/-- A part whose receiver is IDLE is the same with its receiver made IDLE. -/
theorem Part.setRx_idle (p : Part) (h : p.link.rx = .idle) : p.setRx .idle = p := by
  obtain ⟨_, _, _, _, _, _, _, _, _, _, _, _, _, _, _, _, _, _, l, _⟩ := p
  obtain ⟨_, _, _, _, _, _, _⟩ := l
  simp only at h
  subst h
  rfl

/-- A request row, delivered to an addressed unit that hears it. -/
theorem Part.deliver_addressed (p : Part) (code : Byte) (body : List Byte) (h : p.link.rx = .idle)
    (hl : p.link.listenOnly = false) (hb : body.length ≤ 59) :
    p.deliver .addressed code body =
      (((p.handle code body).part.setRx .replying).setReply (some ((p.handle code body).reply code))) := by
  have e : (p.setRx (.collecting .addressed [])).setRx .idle = p.setRx .idle := rfl
  simp [Part.deliver, h, hl, Part.openBy, rxAfter, Part.takeRequest, e, p.setRx_idle h,
    Nat.not_lt.mpr hb]

/-- A request row, delivered as a broadcast to an IDLE receiver. -/
theorem Part.deliver_broadcast (p : Part) (code : Byte) (body : List Byte) (h : p.link.rx = .idle)
    (hb : body.length ≤ 59) :
    p.deliver .broadcast code body =
      (if broadcastCode code then (p.handle code body).part else p).setRx .idle := by
  have e : (p.setRx (.collecting .broadcast [])).setRx .idle = p.setRx .idle := rfl
  simp [Part.deliver, h, Part.openBy, rxAfter, Part.takeRequest, e, p.setRx_idle h,
    Nat.not_lt.mpr hb]

/-- The outcome of an addressed request row that a unit hears: the owning block's part, and its result and
body as the reply (R171, R172). -/
theorem State.act_addressed (s : State) (code : Byte) (body : List Byte) (h : s.hears)
    (hb : body.length ≤ 59) :
    s.act (fun p => p.deliver .addressed code body) =
      .next (s.answered (s.part.handle code body).part code (s.part.handle code body).result
        (s.part.handle code body).body) := by
  obtain ⟨hw, hr, hl⟩ := h
  simp only [State.act, hw, if_true, Part.deliver_addressed _ code body hr hl hb]
  rfl

/-- The outcome of a broadcast request row at an IDLE receiver (R173). -/
theorem State.act_broadcast (s : State) (code : Byte) (body : List Byte) (hw : s.part.atWork = true)
    (hr : s.part.link.rx = .idle) (hb : body.length ≤ 59) :
    s.act (fun p => p.deliver .broadcast code body) =
      .next { s with part := (if broadcastCode code then (s.part.handle code body).part
        else s.part).setRx .idle } := by
  simp only [State.act, hw, if_true, Part.deliver_broadcast _ code body hr hb]

/-- Each addressed request row is the delivery of its CODE and body. -/
theorem exec_request (c : Instr) (s : State) (code : Byte) (via : Via) (body : List Byte)
    (h : c.request = some (code, via, body)) :
    exec c s = s.act fun p => p.deliver via code body := by
  cases c <;> simp only [Instr.request, Option.some.injEq, Prod.mk.injEq, reduceCtorEq] at h
  all_goals
    obtain ⟨rfl, rfl, rfl⟩ := h
    rfl

end Sys2Proof.Machine
end

