-- ==== Sys2Proof/Laws/Moves.lean ====
section
/-! SUPPORT. What the Group Engine's operations can do, in the words of `Part.Moves`: only the group
records, some notices, the store by an abandonment and the generator change, and no setting does. -/

namespace Sys2Proof.Machine

/-! ### The abandonment of the store's work -/

/-- What an abandonment leaves of a store. -/
def Store.abandoned (s : Store) : Store :=
  match s.activity.slot with
  | none => s
  | some k => s.endWork k { s.slots[k] with state := .damaged, stored := none }

theorem Part.abandonStore_store (p : Part) : p.abandonStore.store = p.store.abandoned := by
  unfold Part.abandonStore Store.abandoned
  cases p.store.activity.slot <;> rfl

theorem Store.abandoned_abandoned (s : Store) : s.abandoned.abandoned = s.abandoned := by
  obtain ⟨_, _, act⟩ := s
  cases act <;> rfl

theorem Store.slot_setSlot (s : Store) (j k : Fin 8) (v : Slot) :
    (s.setSlot j v).slot k = if k = j then v else s.slot k := by
  by_cases h : k = j
  · subst h; simp [Store.slot, Store.setSlot]
  · have : (j : Nat) ≠ k := fun e => h (Fin.ext e.symm)
    simp [Store.slot, Store.setSlot, this, h]

theorem Store.abandoned_boot (s : Store) : s.abandoned.boot = s.boot := by
  unfold Store.abandoned; split <;> rfl

theorem Store.abandoned_locked (s : Store) (k : Fin 8) :
    (s.abandoned.slot k).locked = (s.slot k).locked := by
  unfold Store.abandoned
  split
  · rfl
  · next j _ =>
    refine (congrArg Slot.locked (Store.slot_setSlot s j k _)).trans ?_
    split
    · next e => rw [e]; rfl
    · rfl

namespace Part.Moves

variable {p q r : Part}

theorem refl (p : Part) : p.Moves p :=
  ⟨rfl, fun _ => rfl, fun _ _ => rfl, .inl rfl, rfl, rfl, rfl⟩

theorem trans (h : p.Moves q) (k : q.Moves r) : p.Moves r := by
  obtain ⟨h1, h2, h3, h4, h5, h6, h7⟩ := h
  obtain ⟨k1, k2, k3, k4, k5, k6, k7⟩ := k
  refine ⟨by rw [k1, h1], fun g => (k2 g).trans (h2 g), fun n hn => (k3 n hn).trans (h3 n hn), ?_,
    k5.trans h5, k6.trans h6, k7.trans h7⟩
  rw [Part.abandonStore_store] at h4 k4 ⊢
  rcases h4 with h4 | h4 <;> rcases k4 with k4 | k4 <;> rw [k4, h4]
  · exact .inl rfl
  · exact .inr rfl
  · exact .inr rfl
  · exact .inr (Store.abandoned_abandoned _)

theorem powered (h : p.Moves q) : q.powered = p.powered := by rw [h.1]
theorem resetHeld (h : p.Moves q) : q.resetHeld = p.resetHeld := by rw [h.1]
theorem atWork (h : p.Moves q) : q.atWork = p.atWork := by rw [h.1]; rfl
theorem blockPhase (h : p.Moves q) : q.blockPhase = p.blockPhase := by rw [h.1]
theorem handedOver (h : p.Moves q) : q.handedOver = p.handedOver := by rw [h.1]
theorem early (h : p.Moves q) : q.early = p.early := by rw [h.1]
theorem rigA (h : p.Moves q) : q.rigA = p.rigA := by rw [h.1]
theorem rigB (h : p.Moves q) : q.rigB = p.rigB := by rw [h.1]
theorem rig (h : p.Moves q) (x : Rig) : q.rig x = p.rig x := by rw [h.1]; cases x <;> rfl
theorem clock (h : p.Moves q) : q.clock = p.clock := by rw [h.1]
theorem align (h : p.Moves q) : q.align = p.align := by rw [h.1]
theorem map (h : p.Moves q) : q.map = p.map := by rw [h.1]
theorem watch (h : p.Moves q) : q.watch = p.watch := by rw [h.1]
theorem mode (h : p.Moves q) : q.mode = p.mode := by rw [h.1]
theorem members (h : p.Moves q) : q.members = p.members := by rw [h.1]
theorem outLane (h : p.Moves q) : q.outLane = p.outLane := by rw [h.1]
theorem panel (h : p.Moves q) : q.panel = p.panel := by rw [h.1]
theorem tcOut (h : p.Moves q) : q.tcOut = p.tcOut := by rw [h.1]
theorem rx (h : p.Moves q) : q.link.rx = p.link.rx := by rw [h.1]
theorem settings (h : p.Moves q) (g : Fin 12) : (q.group g).settings = (p.group g).settings := h.2.1 g
theorem notices (h : p.Moves q) (k : Fin 8) (hk : k = 2 ∨ k = 4 ∨ k = 5 ∨ k = 6) :
    q.link.notices[k] = p.link.notices[k] := h.2.2.1 k hk
theorem store (h : p.Moves q) : q.store = p.store ∨ q.store = p.store.abandoned :=
  p.abandonStore_store ▸ h.2.2.2.1
theorem tcSettings (h : p.Moves q) : q.tc.settings = p.tc.settings := h.2.2.2.2.1
theorem cadence (h : p.Moves q) : q.tc.cadence = p.tc.cadence := h.2.2.2.2.2.1
theorem sending (h : p.Moves q) : q.tc.sending = p.tc.sending := h.2.2.2.2.2.2
theorem boot (h : p.Moves q) : q.store.boot = p.store.boot := by
  rcases h.store with e | e <;> rw [e]
  exact Store.abandoned_boot _
theorem locked (h : p.Moves q) (k : Fin 8) : (q.store.slot k).locked = (p.store.slot k).locked := by
  rcases h.store with e | e <;> rw [e]
  exact Store.abandoned_locked _ k

theorem inGroup (h : p.Moves q) (g : Fin 12) : q.inGroup g = p.inGroup g := by
  funext c; simp only [Part.inGroup, h.members]

/-- What the judge reads of rigs, Watch and members is kept, so evidence is. -/
theorem evidence (h : p.Moves q) (g : Fin 12) (x : Rig) : q.evidence g x = p.evidence g x := by
  simp only [Part.evidence, Part.hasMembers, h.inGroup, h.rig x, h.watch]

theorem ready (h : p.Moves q) (g : Fin 12) (x : Rig) : q.ready g x = p.ready g x := by
  simp only [Part.ready, Part.rigInStep, h.rig, h.watch, h.align]

theorem cause (h : p.Moves q) (g : Fin 12) (x : Rig) : q.cause g x = p.cause g x := by
  simp only [Part.cause, Part.hasMembers, h.inGroup, h.rig x, h.watch]
  rfl

theorem hasMembers (h : p.Moves q) (g : Fin 12) : q.hasMembers g = p.hasMembers g := by
  simp only [Part.hasMembers, h.inGroup]

end Part.Moves

/-! ### The operations -/

theorem Link.raise_notices_ne (l : Link) (d : NoticeDetail) (k : Fin 8) (h : k ≠ d.kind.index) :
    (l.raise d).notices[k] = l.notices[k] := by
  have : (d.kind.index : Nat) ≠ k := fun e => h (Fin.ext e.symm)
  simp [Link.raise, this]

/-- The notices that a move or a judgement raises: not RIG_CHANGE, CLOCK_CHANGE, BOTH_QUIET, RETIRED. -/
theorem Part.moves_raise (p : Part) (d : NoticeDetail)
    (h : d.kind = .stranded ∨ d.kind = .moved ∨ d.kind = .wouldMove ∨ d.kind = .store) :
    p.Moves (p.raise d) := by
  refine ⟨rfl, fun _ => rfl, fun k hk => p.link.raise_notices_ne d k ?_, .inl rfl, rfl, rfl, rfl⟩
  rcases h with h | h | h | h <;> rw [h] <;> rcases hk with e | e | e | e <;> rw [e] <;> decide

theorem Part.moves_setGroup (p : Part) (g : Fin 12) (r : Group)
    (h : r.settings = (p.group g).settings) : p.Moves (p.setGroup g r) := by
  refine ⟨rfl, fun k => ?_, fun _ _ => rfl, .inl rfl, rfl, rfl, rfl⟩
  rw [p.group_setGroup g k r]
  split
  · next e => rw [e, h]
  · rfl

theorem Part.moves_modGroup (p : Part) (g : Fin 12) (f : Group → Group)
    (h : ∀ r, (f r).settings = r.settings) : p.Moves (p.modGroup g f) :=
  p.moves_setGroup g _ (h _)

theorem Part.moves_modGroups (p : Part) (f : Group → Group)
    (h : ∀ r, (f r).settings = r.settings) : p.Moves (p.modGroups f) :=
  ⟨rfl, fun g => by rw [p.group_modGroups f g, h], fun _ _ => rfl, .inl rfl, rfl, rfl, rfl⟩

theorem Part.moves_tc (p : Part) (t : Timecode) (h : t.settings = p.tc.settings)
    (hc : t.cadence = p.tc.cadence) (hs : t.sending = p.tc.sending) :
    p.Moves { p with tc := t } := ⟨rfl, fun _ => rfl, fun _ _ => rfl, .inl rfl, h, hc, hs⟩

/-- Folding an operation over a list of groups. -/
theorem Part.moves_foldl {α : Type} (f : Part → α → Part) (h : ∀ (p : Part) (a : α), p.Moves (f p a))
    (l : List α) (p : Part) : p.Moves (l.foldl f p) := by
  induction l generalizing p with
  | nil => exact .refl p
  | cons a l ih => exact (h p a).trans (ih (f p a))

@[simp] theorem Group.settings_stopReturn (r : Group) : r.stopReturn.settings = r.settings := rfl
@[simp] theorem Group.settings_settle (r : Group) : r.settle.settings = r.settings := rfl
@[simp] theorem Group.settings_land (r : Group) : r.land.settings = r.settings := by
  unfold Group.land; split <;> rfl
@[simp] theorem Group.settings_unpin (r : Group) : r.unpin.settings = r.settings := by
  unfold Group.unpin; split <;> rfl
@[simp] theorem Group.settings_advance (r : Group) : r.advance.settings = r.settings := by
  unfold Group.advance; split <;> (try split) <;> rfl
@[simp] theorem Group.settings_landIfDue (r : Group) : r.landIfDue.settings = r.settings := by
  unfold Group.landIfDue; split <;> simp
@[simp] theorem Group.settings_enterStandby (r : Group) : r.enterStandby.settings = r.settings := by
  simp only [Group.enterStandby, Group.settings_stopReturn]
  split <;> simp
@[simp] theorem Group.settings_enterRehearsal (r : Group) : r.enterRehearsal.settings = r.settings := by
  unfold Group.enterRehearsal; split <;> simp
@[simp] theorem Group.settings_modRamp (r : Group) (f : Ramp → Ramp) :
    (r.modRamp f).settings = r.settings := by
  unfold Group.modRamp; split <;> rfl
@[simp] theorem Group.settings_clear (r : Group) : r.clear.settings = r.settings := by
  simp [Group.clear]
@[simp] theorem Group.settings_countHoldOff (r : Group) :
    r.countHoldOff.settings = r.settings := by
  unfold Group.countHoldOff; split <;> rfl

@[simp] theorem Timecode.settings_enter (t : Timecode) (s : TcState) : (t.enter s).settings = t.settings := rfl
@[simp] theorem Timecode.settings_enterFreewheel (t : Timecode) :
    t.enterFreewheel.settings = t.settings := by
  unfold Timecode.enterFreewheel; simp only []; split <;> rfl
@[simp] theorem Timecode.settings_enterPending (t : Timecode) : t.enterPending.settings = t.settings := rfl
@[simp] theorem Timecode.settings_applyLimit (t : Timecode) : t.applyLimit.settings = t.settings := by
  unfold Timecode.applyLimit; split <;> rfl

@[simp] theorem Timecode.cadence_enter (t : Timecode) (s : TcState) : (t.enter s).cadence = t.cadence := rfl
@[simp] theorem Timecode.sending_enter (t : Timecode) (s : TcState) : (t.enter s).sending = t.sending := rfl
@[simp] theorem Timecode.cadence_enterFreewheel (t : Timecode) :
    t.enterFreewheel.cadence = t.cadence := by
  unfold Timecode.enterFreewheel; simp only []; split <;> rfl
@[simp] theorem Timecode.sending_enterFreewheel (t : Timecode) :
    t.enterFreewheel.sending = t.sending := by
  unfold Timecode.enterFreewheel; simp only []; split <;> rfl

theorem Part.moves_rejam (p : Part) : p.Moves p.rejam := by
  unfold Part.rejam
  split
  · split
    · exact p.moves_tc _ rfl rfl rfl
    · exact .refl p
  · exact .refl p

theorem Part.moves_sendRunOf (p : Part) (x : Rig) : p.Moves (p.sendRunOf x) := by
  unfold Part.sendRunOf
  split
  · exact p.moves_tc _ rfl rfl rfl
  · exact .refl p

theorem Part.moves_followNow (p : Part) (x : Rig) : p.Moves (p.followNow x) := by
  unfold Part.followNow
  split
  · exact .refl p
  · split
    · exact .refl p
    · split
      · exact (p.moves_sendRunOf x).trans (Part.moves_rejam _)
      · exact p.moves_tc _ (by simp) (by simp) (by simp)
  all_goals
    split
    · exact (p.moves_tc _ (by simp) (by simp) (by simp)).trans ((Part.moves_sendRunOf _ x).trans (Part.moves_rejam _))
    · exact .refl p

theorem Part.moves_followRig (p : Part) (x : Rig) : p.Moves (p.followRig x) :=
  (p.moves_tc { p.tc with followed := x } rfl rfl rfl).trans (Part.moves_followNow _ x)

theorem Part.moves_syncFollowed (p : Part) : p.Moves p.syncFollowed := by
  unfold Part.syncFollowed
  simp only []
  split
  · exact .refl p
  · exact p.moves_followRig _

theorem Part.moves_abandonStore (p : Part) : p.Moves p.abandonStore := by
  refine ⟨?_, fun _ => ?_, fun k hk => ?_, .inr rfl, ?_, ?_, ?_⟩ <;> unfold Part.abandonStore <;> split
  all_goals try rfl
  refine Link.raise_notices_ne _ _ k (fun e => ?_)
  rcases hk with h | h | h | h <;> rw [h] at e <;> exact absurd e (by show _ ≠ (7 : Fin 8); decide)

theorem Part.moves_tellMove (p : Part) (g : Fin 12) (x y : Rig) (c : Cause) :
    p.Moves (p.tellMove g x y c) :=
  ((p.moves_raise _ (.inr (.inl rfl))).trans (Part.moves_abandonStore _)).trans (Part.moves_syncFollowed _)

theorem Part.moves_enterFading (p : Part) (g : Fin 12) (b : Bool) (c : Cause) :
    p.Moves (p.enterFading g b c) := by
  have h : p.Moves ((p.setGroup g { p.group g with
      state := .fading ⟨0, p.fadeLength g (otherRig (p.group g).source), 0, p.rampAge⟩,
      pinned := b, reported := false }.stopReturn).tellMove g (p.group g).source (otherRig (p.group g).source) c) :=
    (p.moves_setGroup g _ (by rfl)).trans (Part.moves_tellMove _ _ _ _ _)
  unfold Part.enterFading
  simp only []
  split
  · exact h.trans (Part.moves_modGroup _ _ _ Group.settings_land)
  · exact h

theorem Part.moves_reverse (p : Part) (g : Fin 12) (b : Bool) (c : Cause) :
    p.Moves (p.reverse g b c) := by
  unfold Part.reverse
  simp only []
  split
  · refine Part.Moves.trans (p.moves_setGroup g _ ?_) (Part.moves_tellMove _ _ _ _ _)
    split <;> rfl
  · exact .refl p

/-! ### The judge -/

theorem Part.moves_judgeExit (p : Part) (g : Fin 12) : p.Moves (p.judgeExit g) := by
  unfold Part.judgeExit
  simp only []
  split
  · split
    · exact .refl p
    · split <;> exact p.moves_setGroup g _ (by rfl)
  · split
    · exact .refl p
    · exact p.moves_setGroup g _ (by rfl)
  · exact .refl p

theorem Part.moves_decideMove (p : Part) (g : Fin 12) : p.Moves (p.decideMove g) := by
  unfold Part.decideMove
  simp only []
  split
  · exact p.moves_enterFading g _ _
  · exact (p.moves_setGroup g _ (by rfl)).trans (Part.moves_raise _ _ (.inl rfl))

theorem Part.moves_judgeSettled (p : Part) (g : Fin 12) : p.Moves (p.judgeSettled g) := by
  unfold Part.judgeSettled
  simp only []
  split
  · have h := p.moves_setGroup g { p.group g with
      state := .confirming (p.group g).settings.holdOff }.stopReturn rfl
    split
    · exact h.trans (Part.moves_decideMove _ _)
    · exact h
  · exact .refl p

theorem Part.moves_judgeExpiry (p : Part) (g : Fin 12) : p.Moves (p.judgeExpiry g) := by
  unfold Part.judgeExpiry
  split
  · exact p.moves_decideMove g
  · exact .refl p

theorem Part.moves_judgeStranded (p : Part) (g : Fin 12) : p.Moves (p.judgeStranded g) := by
  unfold Part.judgeStranded
  simp only []
  split
  · exact p.moves_enterFading g _ _
  · exact .refl p

theorem Part.moves_judgeFading (p : Part) (g : Fin 12) : p.Moves (p.judgeFading g) := by
  unfold Part.judgeFading
  simp only []
  split
  · split
    · exact p.moves_reverse g _ _
    · exact .refl p
  · exact .refl p

theorem Part.moves_judgeReturnTimer (p : Part) (g : Fin 12) : p.Moves (p.judgeReturnTimer g) := by
  unfold Part.judgeReturnTimer
  split
  · exact .refl p
  · exact p.moves_modGroup g _ Group.settings_stopReturn

theorem Part.moves_judgeReturn (p : Part) (g : Fin 12) : p.Moves (p.judgeReturn g) := by
  unfold Part.judgeReturn
  simp only []
  split
  · exact p.moves_enterFading g _ _
  · exact .refl p

theorem Part.moves_judgeReported (p : Part) (g : Fin 12) : p.Moves (p.judgeReported g) := by
  unfold Part.judgeReported
  simp only []
  split
  · exact (p.moves_setGroup g _ (by rfl)).trans (Part.moves_raise _ _ (.inr (.inr (.inl rfl))))
  · exact p.moves_setGroup g _ (by rfl)

theorem Part.moves_judgeGroup (p : Part) (g : Fin 12) : p.Moves (p.judgeGroup g) := by
  unfold Part.judgeGroup
  exact ((((((((p.moves_judgeExit g).trans (Part.moves_judgeSettled _ g)).trans
    (Part.moves_judgeExpiry _ g)).trans (Part.moves_judgeStranded _ g)).trans
    (Part.moves_judgeFading _ g)).trans (Part.moves_judgeReturnTimer _ g)).trans
    (Part.moves_judgeReturn _ g)).trans (Part.moves_judgeReturnTimer _ g)).trans
    (Part.moves_judgeReported _ g)

/-- A pass of the judge changes the group records, the notice set, the store and the generator alone. -/
theorem Part.moves_judge (p : Part) : p.Moves p.judge :=
  Part.moves_foldl _ Part.moves_judgeGroup _ p

theorem Part.moves_judgeChange (before p : Part) : p.Moves (Part.judgeChange before p) := by
  unfold Part.judgeChange
  split
  · exact .refl p
  · exact p.moves_judge

theorem Part.moves_countReturn (p : Part) (g : Fin 12) : p.Moves (p.countReturn g) := by
  unfold Part.countReturn
  split
  · exact p.moves_modGroup g _ fun _ => rfl
  · exact .refl p

theorem Part.moves_handGroup (p : Part) (g : Fin 12) : p.Moves (p.handGroup g) :=
  ((p.moves_judgeExit g).trans (Part.moves_modGroup _ g _ Group.settings_countHoldOff)).trans
    (Part.moves_countReturn _ g)

/-- A handover changes what the judge changes, and the counts in the group records. -/
theorem Part.moves_takeHandover (p : Part) : p.Moves p.takeHandover :=
  (Part.moves_foldl _ Part.moves_handGroup _ p).trans (Part.moves_judge _)

theorem Part.moves_landGroup (p : Part) (g : Fin 12) : p.Moves (p.landGroup g) :=
  (p.moves_modGroup g _ Group.settings_land).trans (Part.moves_judge _)

theorem Part.moves_advanceRamps (p : Part) : p.Moves p.advanceRamps := by
  unfold Part.advanceRamps
  simp only []
  have h := p.moves_modGroups _ Group.settings_advance
  split
  · exact h.trans ((Part.moves_modGroups _ _ Group.settings_landIfDue).trans (Part.moves_judge _))
  · exact h

/-! ### The ramps of one arrival (R141) -/

@[simp] theorem Group.settings_stamp (n : Nat) (was r : Group) :
    (Group.stamp n was r).settings = r.settings := by
  unfold Group.stamp; split <;> (try split) <;> rfl
@[simp] theorem Group.source_stamp (n : Nat) (was r : Group) :
    (Group.stamp n was r).source = r.source := by
  unfold Group.stamp; split <;> (try split) <;> rfl
@[simp] theorem Group.pinned_stamp (n : Nat) (was r : Group) :
    (Group.stamp n was r).pinned = r.pinned := by
  unfold Group.stamp; split <;> (try split) <;> rfl

@[simp] theorem Group.reported_stamp (n : Nat) (was r : Group) :
    (Group.stamp n was r).reported = r.reported := by
  unfold Group.stamp; split <;> (try split) <;> rfl
@[simp] theorem Group.returnExpired_stamp (n : Nat) (was r : Group) :
    (Group.stamp n was r).returnExpired = r.returnExpired := by
  unfold Group.stamp; split <;> (try split) <;> rfl
@[simp] theorem Group.returnCount_stamp (n : Nat) (was r : Group) :
    (Group.stamp n was r).returnCount = r.returnCount := by
  unfold Group.stamp; split <;> (try split) <;> rfl
@[simp] theorem Group.glitches_stamp (n : Nat) (was r : Group) :
    (Group.stamp n was r).glitches = r.glitches := by
  unfold Group.stamp; split <;> (try split) <;> rfl

/-- All that numbering an arrival's ramps can do to a group: give a ramp that the arrival began its number
(R141). -/
theorem Group.stamp_eq (n : Nat) (was r : Group) :
    Group.stamp n was r = r ∨
      ∃ u l j, r.state = .fading ⟨u, l, j, .sinceLast 0⟩ ∧ ¬(r.source = was.source ∧ r.state = was.state) ∧
        Group.stamp n was r = { r with state := .fading ⟨u, l, j, .sinceLast n⟩ } := by
  unfold Group.stamp
  split
  · next u l j e =>
    split
    · exact .inl rfl
    · next h => exact .inr ⟨u, l, j, e, h, rfl⟩
  · exact .inl rfl

/-- A group that the arrival left where it was is not numbered. -/
theorem Group.stamp_same (n : Nat) (was r : Group) (h1 : r.source = was.source) (h2 : r.state = was.state) :
    Group.stamp n was r = r := by
  rcases Group.stamp_eq n was r with h | ⟨_, _, _, -, h, -⟩
  · exact h
  · exact absurd ⟨h1, h2⟩ h

@[simp] theorem Group.isFading_stamp (n : Nat) (was r : Group) :
    (Group.stamp n was r).isFading = r.isFading := by
  rcases Group.stamp_eq n was r with h | ⟨_, _, _, e, -, h⟩
  · rw [h]
  · rw [h]; simp [Group.isFading, e]

/-- Numbering the ramps of an arrival changes what a move may change, and no more. -/
theorem Part.moves_stampRamps (before p : Part) : p.Moves (before.stampRamps p) := by
  unfold Part.stampRamps
  split
  · exact .refl p
  · exact Part.moves_foldl _ (fun q g => q.moves_modGroup g _ fun _ => Group.settings_stamp _ _ _) _ p

/-- An arrival that leaves the group records alone begins no ramp. -/
theorem Part.stampRamps_same (before p : Part) (h : p.groups = before.groups) : before.stampRamps p = p :=
  if_pos h

theorem Part.group_foldl_modGroup (f : Fin 12 → Group → Group) (l : List (Fin 12)) (nd : l.Nodup) (p : Part)
    (g : Fin 12) :
    (l.foldl (fun (q : Part) (g : Fin 12) => q.modGroup g (f g)) p).group g =
      if g ∈ l then f g (p.group g) else p.group g := by
  induction l generalizing p with
  | nil => simp
  | cons a l ih =>
    obtain ⟨ha, hl⟩ := List.nodup_cons.mp nd
    rw [List.foldl_cons, ih hl, Part.modGroup, Part.group_setGroup]
    by_cases e : g = a
    · subst e; simp [ha]
    · simp [e]

/-- Every group after the numbering of an arrival's ramps. -/
theorem Part.group_stampRamps (before p : Part) (g : Fin 12) :
    (before.stampRamps p).group g =
      Group.stamp (before.rampArrivals + 1) (before.group g) (p.group g) := by
  unfold Part.stampRamps
  split
  · next h =>
    have e : p.group g = before.group g := by simp only [Part.group, h]
    rw [e, Group.stamp_same _ _ _ rfl rfl]
  · exact (Part.group_foldl_modGroup _ allGroups allGroups_nodup p g).trans (if_pos (mem_allGroups g))

@[simp] theorem Group.destBytes_stamp (n : Nat) (was r : Group) :
    (Group.stamp n was r).destBytes = r.destBytes := by
  rcases Group.stamp_eq n was r with h | ⟨_, _, _, e, -, h⟩
  · rw [h]
  · rw [h]; simp [Group.destBytes, e, Ramp.weight]
@[simp] theorem Group.rampBytes_stamp (n : Nat) (was r : Group) :
    (Group.stamp n was r).rampBytes = r.rampBytes := by
  rcases Group.stamp_eq n was r with h | ⟨_, _, _, e, -, h⟩
  · rw [h]
  · rw [h]; simp [Group.rampBytes, e]
@[simp] theorem Group.holdOffBytes_stamp (n : Nat) (was r : Group) :
    (Group.stamp n was r).holdOffBytes = r.holdOffBytes := by
  rcases Group.stamp_eq n was r with h | ⟨_, _, _, e, -, h⟩
  · rw [h]
  · rw [h]; simp [Group.holdOffBytes, e]
@[simp] theorem Group.code_stamp (n : Nat) (was r : Group) :
    (Group.stamp n was r).state.code = r.state.code := by
  rcases Group.stamp_eq n was r with h | ⟨_, _, _, e, -, h⟩
  · rw [h]
  · rw [h, e]; rfl
@[simp] theorem Group.refRig_stamp (n : Nat) (was r : Group) :
    (Group.stamp n was r).refRig = r.refRig := by
  rcases Group.stamp_eq n was r with h | ⟨_, _, _, e, -, h⟩
  · rw [h]
  · rw [h]; simp [Group.refRig, e]

/-- No reply tells the numbering: GROUP_PIN's and GROUP_UNPIN's body is the same before and after it. -/
theorem Part.pinBody_stampRamps (before p : Part) (g : Fin 12) :
    (before.stampRamps p).pinBody g = p.pinBody g := by
  simp only [Part.pinBody, Part.group_stampRamps, Group.code_stamp, Group.source_stamp,
    Group.pinned_stamp, Group.destBytes_stamp]

/-- GROUP_STATUS's and GROUP_CLEAR's body is the same before and after the numbering. -/
theorem Part.groupStatusBody_stampRamps (before p : Part) (g : Fin 12) :
    (before.stampRamps p).groupStatusBody g = p.groupStatusBody g := by
  have h := Part.moves_stampRamps before p
  have m : (before.stampRamps p).memberByte g = p.memberByte g := by
    funext b; simp only [Part.memberByte, h.inGroup]
  simp only [Part.groupStatusBody, m, h.ready, h.cause, Part.group_stampRamps,
    Group.code_stamp, Group.source_stamp, Group.pinned_stamp, Group.destBytes_stamp, Group.rampBytes_stamp,
    Group.holdOffBytes_stamp, Group.refRig_stamp, Group.reported_stamp, Group.returnExpired_stamp,
    Group.returnCount_stamp, Group.glitches_stamp]

/-- The numbering changes the group records alone. -/
theorem Part.stampRamps_eq (before p : Part) :
    ∃ gs, before.stampRamps p = { p with groups := gs } := by
  have fold : ∀ (f : Fin 12 → Group → Group) (l : List (Fin 12)) (p : Part),
      ∃ gs, l.foldl (fun (q : Part) (g : Fin 12) => q.modGroup g (f g)) p = { p with groups := gs } := by
    intro f l
    induction l with
    | nil => exact fun p => ⟨p.groups, rfl⟩
    | cons a l ih => exact fun p => ih (p.modGroup a (f a))
  unfold Part.stampRamps
  split
  · exact ⟨p.groups, rfl⟩
  · exact fold _ _ p

/-- What is done for the last period moves a part no further than what is done. -/
theorem Part.moves_ofLastPeriod (p : Part) (f : Part → Part) (h : ∀ q : Part, q.Moves (f q)) :
    p.Moves (p.ofLastPeriod f) := by
  obtain ⟨h1, h2, h3, h4, h5, h6, h7⟩ := h { p with early := false }
  rw [Part.abandonStore_store] at h4
  refine ⟨?_, h2, h3, ?_, h5, h6, h7⟩
  · unfold Part.ofLastPeriod
    rw [h1]
  · rw [Part.abandonStore_store]
    exact h4

/-- What leaves a part as it is leaves it so for the last period too. -/
theorem Part.ofLastPeriod_same (p : Part) (f : Part → Part)
    (h : f { p with early := false } = { p with early := false }) : p.ofLastPeriod f = p := by
  unfold Part.ofLastPeriod
  rw [h]

@[simp] theorem Part.ofLastPeriod_early (p : Part) (f : Part → Part) :
    (p.ofLastPeriod f).early = p.early := rfl

/-! ### Pins -/

theorem Part.moves_pinRunning (p : Part) (g : Fin 12) (x : Rig) (c : Cause) :
    p.Moves (p.pinRunning g x c) := by
  unfold Part.pinRunning
  simp only []
  split
  · split
    · exact p.moves_reverse g _ _
    · exact p.moves_setGroup g _ (by rfl)
  · split
    · exact p.moves_setGroup g _ (by rfl)
    · exact p.moves_enterFading g _ _

theorem Part.moves_pinEvent (p : Part) (g : Fin 12) (x : Rig) (c : Cause) : p.Moves (p.pinEvent g x c) := by
  unfold Part.pinEvent
  split
  · exact (p.moves_modGroup g _ (by intro _; rfl)).trans (Part.moves_syncFollowed _)
  · exact p.moves_pinRunning g x c

theorem Part.moves_panelEvent (p : Part) (c : Contact) : p.Moves (p.panelEvent c) := by
  unfold Part.panelEvent
  simp only []
  refine (Part.moves_foldl _ (fun p g => ?_) _ p).trans (Part.moves_judge _)
  split
  · split
    · exact p.moves_pinEvent g _ _
    · exact p.moves_pinEvent g _ _
    · exact p.moves_modGroup g _ Group.settings_unpin
  · exact .refl p

end Sys2Proof.Machine
end

