-- ==== Sys2Proof/Tests/Slice0.lean ====
section
/-! SUPPORT. Tests on single steps, with the values that the spec's worked cases and layouts give, the
well-formedness smoke test, and a state for every statement that has hypotheses. -/

namespace Sys2Proof.Tests

open Sys2Proof.Machine

set_option Elab.async false

/-! ### Small states -/

/-- The part after a command. -/
def after (c : Instr) (s : State) : Part :=
  match exec c s with
  | .next t => t.part
  | _ => s.part

/-- The result and body of the reply to an addressed request. -/
def answer (c : Instr) (s : State) : Option (Result × List Byte) :=
  (after c s).link.reply.map fun r => (r.result, r.body)

/-- A LOCKED rig PLAYING at a frame, without faults. -/
def playing (f n : Nat) : RigPort :=
  { RigPort.reset with
    lock := .locked, goodRun := 64, bufState := .running, fLast := f, n := n, run := some .playing,
    posValid := true, seqBase := true, faults := .empty }

/-- A frame whose 48 samples are equal. -/
def flat (x : Int) (side : Byte) : Frame := ⟨List.replicate 48 (BitVec.ofInt 24 x), side, false⟩

/-- Both rigs PLAYING and aligned at frame 93,101, the core on rig A, the mode given. -/
def show' (mode : Mode) : Part :=
  let p := State.reset.part
  { p with
    rigA := playing 93101 100, rigB := playing 93101 145, mode := mode,
    clock := ⟨p.clock.preference, .laneA, some 240000, some 240000⟩,
    align := { p.align with d := some 45, s := 45, aligned := true } }

/-- A state with a part and no command waiting. -/
def on (p : Part) : State := ⟨p, []⟩

/-- The first `n` member channels of group 0, the others in group 1. -/
def firstChannels (n : Nat) : Vector (Fin 12) 48 := Vector.ofFn fun c => if c.val < n then 0 else 1

/-- A record at 25 frames per second. -/
def record (id start length tail : Nat) : Segment := ⟨id, start, length, tail, .auto, none, [], []⟩

/-- The map of the live edits: records 10, 11 and 17, both rigs holding 11, GENERATION 6. -/
def liveMap : SegMap :=
  ⟨[⟨record 10 90000 4500 50, false⟩, ⟨record 11 95000 5200 80, false⟩, ⟨record 17 101500 5400 200, false⟩],
    some 11, some 11, 6, 0, 0⟩

/-- The show of the live edits: both rigs at frame 96,000. -/
def liveShow : State :=
  on { show' .shows with map := liveMap, rigA := playing 96000 100, rigB := playing 96000 145 }

/-- Group 0 in a given state. -/
def withGroup0 (p : Part) (st : GroupState) (x : Rig) (pinned : Bool) : Part :=
  p.setGroup 0 { p.group 0 with state := st, source := x, pinned := pinned }

/-- The contents of a save of 40 records, as far as their number goes. -/
def fortyRecords : ShowContents :=
  { (State.reset.part.snapshot) with segs := (List.range 40).map fun k => record (k + 1) (100 * k) 10 0 }

/-- A save or an erase in flight on slot 2, LOCKED no, label `L`. -/
def working (a : Activity) : Part :=
  let p := show' .shows
  { p with store := { p.store.setSlot 2 ⟨.writing, false, [0x4C], none⟩ with activity := a } }

/-! ### Well-formed commands -/

/-- A body of 59 bytes fits a request frame. -/
theorem test_body_of_59_wellFormed :
    (Instr.slotSave .addressed (List.replicate 59 0x41)).wellFormed = true := by decide

/-- A body of 60 bytes does not: LEN would be 62 (R168). -/
theorem test_body_of_60_illFormed :
    (Instr.slotSave .addressed (List.replicate 60 0x41)).wellFormed = false := by decide

/-! ### Layouts (R182) -/

/-- Marker 01:02:03:04 at 25 frames per second, PLAYING: CHECK is 0xF3. -/
theorem test_marker_bytes :
    markerBytes .r25 93079 .playing = [0xC3, 0x01, 0x02, 0x03, 0x04, 0x02, 0x01, 0xF3] := by decide

/-- RIG_STATUS to unit 5 for rig B: CHECK is 0xCC. -/
theorem test_request_frame_check : checkFor [0x03, 0x30, 0x01] = 0xCC := by decide

/-- The default ramp at steps 1, 2, 120, 479 and 480 (chapter 8). -/
theorem test_ramp_weights :
    [1, 2, 120, 479, 480].map (fun j => (Ramp.mk 0 480 j .older).weight) =
      [68, 136, 8192, 32699, 32768] := by decide

/-- The mix at steps 0, 1 and 120 of that ramp (chapter 8). -/
theorem test_mix :
    [0, 68, 8192].map (fun u => (mixSample (BitVec.ofInt 24 1000000) (BitVec.ofInt 24 (-200000)) u).toInt) =
      [1000000, 997510, 700000] := by decide

/-! ### Reset, power and start-up -/

theorem test_reset_assert_releases_the_outputs :
    let p := after .resetAssert (on (show' .shows))
    p.outLane = none ∧ p.tcOut = none ∧ p.attn = false ∧ p.mode = .standby := by decide +kernel

/-- Power lost during a save to the boot slot 5 (chapter 11): slot 5 is left WRITING. -/
theorem test_power_loss_keeps_writing :
    let p := show' .shows
    let store := { p.store.setSlot 5 ⟨.writing, false, [], none⟩ with boot := some 5, activity := .erase 5 9 }
    let q := after .powerLoss (on { p with store := store })
    (q.store.slot 5).state = .writing ∧ q.store.boot = some 5 ∧ q.store.activity = .idle := by
  decide +kernel

/-- A boot slot found WRITING at power-up: DAMAGED, defaults remain, STORE (5, BOOT_FAILED). -/
theorem test_power_up_finds_writing :
    let p := State.reset.part
    let store := { p.store.setSlot 5 ⟨.writing, false, [], none⟩ with boot := some 5 }
    let q := after (.powerUp 7 1) (on { p with powered := false, store := store })
    (q.store.slot 5).state = .damaged ∧ q.link.unitAddr = 7 ∧
      q.link.notices[(7 : Fin 8)] = some ⟨.store (some 5) .bootFailed, 1⟩ := by decide +kernel

theorem test_reset_release_with_no_boot_slot :
    let q := after (.resetRelease 5 0) (on { State.reset.part with resetHeld := true })
    q = State.reset.part := by decide +kernel

/-! ### Core sample period and lanes -/

/-- First alignment (chapter 3): B's marker 01:02:03:04 completes with A at 93,078 and n 1,890, so D is
37 and the pending skew 37. In a block's 48th period, with 5 pending in STANDBY, a boundary taken before the
marker makes S 5 and leaves 37 pending, and one after it makes S 37 at once (R46). -/
theorem test_core_sample_period_measures :
    let a := { playing 93078 1889 with frames := [flat 0 0] }
    let b := { playing 93078 1926 with
      frames := [flat 0 0xF3], asm := .collecting [0x01, 0x02, 0x03, 0x04, 0x02, 0x01] }
    let p := State.reset.part
    let q := after (.coreSamplePeriod {}) (on { p with rigA := a, rigB := b })
    let last := { p with
      rigA := a, rigB := b, blockPhase := 47, align := { p.align with pendingSkew := some 5 } }
    let before := after (.coreSamplePeriod { boundary := .first }) (on last)
    let behind := after (.coreSamplePeriod { boundary := .between, advanceLast := true }) (on last)
    (q.align.d = some 37 ∧ q.align.pendingSkew = some 37 ∧ q.align.aligned = false ∧
      q.rigB.fLast = 93079 ∧ q.rigB.n = 7) ∧
    (before.align.s = 5 ∧ before.align.pendingSkew = some 37) ∧
    (behind.align.s = 37 ∧ behind.align.pendingSkew = none) := by decide +kernel

/-- Step 1 of the default ramp: 1,000,000 on A and −200,000 on B give 997,510 (chapter 8). -/
theorem test_core_sample_period_mixes :
    let a := { playing 93078 10 with frames := [flat 1000000 0] }
    let b := { playing 93078 10 with frames := [flat (-200000) 0] }
    let p := withGroup0 State.reset.part (.fading ⟨0, 480, 0, .older⟩) .a false
    let q := after (.coreSamplePeriod {})
      (on { p with rigA := a, rigB := b, mode := .shows })
    (q.group 0).destWeight = 68 ∧
      q.outLane = some (List.replicate 48 (BitVec.ofInt 24 997510)) := by decide +kernel

/-- The 64th well-formed frame locks (R3). -/
theorem test_lane_frame_locks :
    let r := (after (.laneFrame .a true (List.replicate 147 0))
      (on { State.reset.part with rigA := { RigPort.reset with goodRun := 63 } })).rigA
    r.lock = .locked ∧ r.bufState = .filling ∧ r.faults = ⟨true, false, false, false, false⟩ := by
  decide +kernel

/-- The fourth malformed frame in a row is the loss event: the core falls through to B, D is none and S
keeps its value (chapter 2, chapter 3). -/
theorem test_missing_frame_loses_the_lane :
    let p := show' .shows
    let q := after (.missingFrame .a) (on { p with rigA := { p.rigA with badRun := 3 } })
    q.rigA.lock = .unlocked ∧ q.rigA.faults.link = true ∧ q.clock.current = .laneB ∧
      q.align.d = none ∧ q.align.s = 45 := by decide +kernel

/-- n reaches 5,767 at 25 frames per second (chapter 1, step 13). -/
theorem test_marker_timeout :
    let p := { show' .shows with rigA := playing 90023 5767 }
    let r := (after (.markerTimeout .a) (on p)).rigA
    r.faults = ⟨false, true, false, false, false⟩ ∧ r.run = none ∧ r.n = 5767 ∧ r.fLast = 90023 := by
  decide +kernel

theorem test_rig_clear_keeps_link_of_an_unlocked_lane :
    let r := { RigPort.reset with faults := ⟨true, true, true, false, true⟩, slips := 9 }
    let q := (after (.rigClear .addressed [0x00]) (on { State.reset.part with rigA := r })).rigA
    q.faults = ⟨true, false, false, false, false⟩ ∧ q.slips = 0 := by decide +kernel

/-- The third drop within 48,000 samples has raised CLOCK; ten seconds later it clears (chapter 2). -/
theorem test_clock_fault_clear :
    let p := show' .shows
    let r := { p.rigB with faults := ⟨false, false, false, false, true⟩, slipNewer := some 480000 }
    let q := (after (.clockFaultClear .b) (on { p with rigB := r })).rigB
    q.faults = .empty ∧ q.deltas.faults.clock = true := by decide +kernel

/-- A status body of a reset rig: LANE UNLOCKED, FAULTS {LINK} (R21, R182). -/
theorem test_rig_status_after_reset :
    answer (.rigStatus .addressed [0x01]) State.reset =
      some (.ok, [1, 0, 1, 0, 0, 0, 0, 0, 0, 0, 0, 0, 0, 0]) := by decide +kernel

/-! ### Clock -/

/-- The timer reaches 240,000 and A becomes current, with CLOCK_CHANGE (A) (chapter 2). -/
theorem test_restore_timer_complete :
    let p := show' .shows
    let q := after (.restoreTimerComplete .a) (on { p with clock := { p.clock with current := .laneB } })
    q.clock.current = .laneA ∧ q.link.notices[(4 : Fin 8)] = some ⟨.clockChange .laneA, 1⟩ := by
  decide +kernel

theorem test_clock_set_answers_the_preference :
    answer (.clockSet .addressed [1, 0, 2]) State.reset = some (.ok, [1, 0, 2, 2]) := by decide +kernel

theorem test_clock_set_refuses_a_repeat :
    answer (.clockSet .addressed [1, 1, 2]) State.reset = some (.badValue, []) := by decide +kernel

/-! ### Show settings and alignment -/

theorem test_show_set_clamps :
    answer (.showSet .addressed [25, 60, 1, 0]) State.reset = some (.adjusted, [25, 48, 1, 1]) := by
  decide +kernel

/-- The undeclared breakdown, completion 2000: A has 2000, B 1999, and the mismatch stands against A
(chapter 5). -/
theorem test_block_completion_mismatch :
    let p := show' .shows
    let w := { p.watch with
      groups := p.watch.groups.set 0 ⟨1999, 1998, 0, 0, false, false, true⟩ }
    let q := after (.blockCompletion false false false) (on { p with watch := w, blockPhase := 48 })
    (q.watch.groups[(0 : Fin 12)]).mismatchA = true ∧ (q.watch.groups[(0 : Fin 12)]).runA = 2000 ∧
      (q.watch.groups[(0 : Fin 12)]).runB = 1999 ∧ (q.group 0).state = .confirming 20 := by decide +kernel

/-! ### Segment map (the live edits of chapter 4) -/

/-- Step 4: 98,000 to 98,599 lies inside song 2's span. -/
theorem test_seg_insert_overlap :
    answer (.segInsert .addressed (record 21 98000 600 0).body) liveShow = some (.overlap, []) := by
  decide +kernel

/-- Step 5: song 2 is cut to 95,000 to 97,999 and GENERATION becomes 7. -/
theorem test_seg_amend_shortens :
    let q := after (.segAmend .addressed (record 11 95000 3000 80).body) liveShow
    q.map.generation = 7 ∧ q.map.heldA = some 11 ∧ q.map.find 11 = some ⟨record 11 95000 3000 80, false⟩ := by
  decide +kernel

theorem test_seg_insert_takes_its_place :
    let q := after (.segInsert .addressed (record 16 94500 500 0).body) liveShow
    q.map.recs.map (fun r => r.seg.id) = [10, 16, 11, 17] ∧ q.map.generation = 7 := by decide +kernel

/-- A record that no rig holds is removed at once (step 1); one that a rig holds becomes RETIRING
(step 8). -/
theorem test_seg_retire :
    answer (.segRetire .addressed [0x00, 17]) liveShow = some (.ok, [0]) ∧
      answer (.segRetire .addressed [0x00, 11]) liveShow = some (.ok, [1]) := by decide +kernel

theorem test_seg_find_not_found :
    answer (.segFind .addressed [0x00, 12]) liveShow = some (.notFound, []) := by decide +kernel

/-- Frame 101,000 stands in the gap before record 17 (R74). -/
theorem test_seg_locate_next :
    (answer (.segLocate .addressed [0x01, 0x8A, 0x88]) liveShow).map (fun a => a.2.take 3) =
      some [1, 0, 17] := by decide +kernel

theorem test_map_status :
    answer (.mapStatus .addressed []) liveShow =
      some (.ok, [3, 0, 0, 6, 0, 0, 0, 0, 11, 0, 11]) := by decide +kernel

theorem test_map_clear_wrong_mode :
    answer (.mapClear .addressed []) liveShow = some (.wrongMode, []) := by decide +kernel

theorem test_cursor_set :
    answer (.cursorSet .addressed [0]) liveShow = some (.ok, [0, 0, 6, 3]) := by decide +kernel

/-- Step 17: the generation has changed since the cursor was set. -/
theorem test_cursor_next_stale :
    answer (.cursorNext .addressed []) liveShow = some (.staleCursor, [0, 6]) := by decide +kernel

/-! ### Watch and groups -/

theorem test_watch_status :
    answer (.watchStatus .addressed [0]) State.reset =
      some (.ok, [0, 48, 3, 0x07, 0xD0, 0, 0, 0, 0, 0, 0, 0, 0, 0, 0, 4]) := by decide +kernel

/-- The default settings in their layout (R96, R182). -/
theorem test_group_set_reads_the_defaults :
    answer (.groupSet .addressed [3]) State.reset =
      some (.ok, [3, 0, 0x01, 0xE0, 0, 20, 0x00, 0x08, 0x3B, 0x07, 0xD0, 3, 0, 0, 30, 1]) := by
  decide +kernel

theorem test_group_assign_counts :
    answer (.groupAssign .addressed [1, 16, 17, 18]) State.reset = some (.ok, [1, 3]) := by decide +kernel

theorem test_mode_set :
    answer (.modeSet .addressed [2]) State.reset = some (.ok, [2]) ∧
      answer (.modeSet .addressed [3]) State.reset = some (.badValue, []) := by decide +kernel

/-- The main failure (chapter 6): at the expiry group 0 fades to B over 480 samples, cause LINK. -/
theorem test_hold_off_expiry_moves :
    let p := show' .shows
    let p := { p with rigA := { RigPort.reset with fLast := 93101 }, align := { p.align with d := none, aligned := false } }
    let q := after .holdOffExpiry (on (withGroup0 { p with blockPhase := 48 } (.confirming 1) .a false))
    (q.group 0).state = .fading ⟨0, 480, 0, .sinceLast 0⟩ ∧ (q.group 0).source = .a ∧
      q.link.notices[(1 : Fin 8)] = some ⟨.moved 0 .a .b .link, 1⟩ := by decide +kernel

/-- Groups 0 and 5, both with A quiet at one handover: group 0 at the end of its hold-off, group 5 with
HOLD_OFF 0. They move in ascending number, and MOVED keeps the highest (R108, R126). -/
theorem test_one_handover_keeps_the_highest_group :
    let p := show' .shows
    let w := { p.watch with
      peaksB := List.replicate 48 3000,
      groups := (p.watch.groups.set 0 ⟨2019, 0, 0, 3000, true, false, true⟩).set 5
        ⟨1999, 0, 0, 3000, false, false, true⟩ }
    let p := { p with
      watch := w, blockPhase := 48, members := Vector.ofFn fun c => if c.val < 16 then 0 else 5 }
    let p := (withGroup0 p (.confirming 1) .a false).setGroup 5
      (Group.settledOn { GroupSettings.default with holdOff := 0 } .a)
    (after .holdOffExpiry (on p)).link.notices[(1 : Fin 8)] = some ⟨.moved 5 .a .b .quiet, 2⟩ := by
  decide +kernel

theorem test_landing :
    let q := after (.landing 0) (on (withGroup0 (show' .shows) (.fading ⟨0, 480, 479, .older⟩) .a false))
    (q.group 0).state = .settled ∧ (q.group 0).source = .b := by decide +kernel

/-- An expired return timer in a gap brings the group home (R121). -/
theorem test_return_timer_expiry :
    let p := show' .shows
    let set := { GroupSettings.default with returnMode := .autoInGap }
    let p := p.setGroup 0 ⟨set, .settled, .b, false, 29999, false, 0, false⟩
    let q := after .returnTimerExpiry (on { p with blockPhase := 48 })
    (q.group 0).refRig = .a ∧ q.link.notices[(1 : Fin 8)] = some ⟨.moved 0 .b .a .home, 1⟩ := by
  decide +kernel

theorem test_group_home_not_ready :
    let p := { show' .shows with rigA := RigPort.reset }
    answer (.groupHome .addressed [0]) (on (withGroup0 p .settled .b false)) = some (.notReady, []) := by
  decide +kernel

/-- Step 1 of the default ramp on rig B: weight 68, length 480. -/
theorem test_group_status_of_a_fade :
    let p := withGroup0 (show' .shows) (.fading ⟨0, 480, 1, .older⟩) .a false
    (answer (.groupStatus .addressed [0]) (on p)).map (fun a => (a.2.drop 7).take 10) =
      some [2, 0, 8, 1, 0, 68, 0, 1, 0x01, 0xE0] := by decide +kernel

theorem test_group_clear_lands :
    let p := withGroup0 (show' .rehearsal) (.fading ⟨0, 480, 100, .older⟩) .a true
    let q := after (.groupClear .addressed [0]) (on p)
    (q.group 0).state = .settled ∧ (q.group 0).source = .b ∧ (q.group 0).pinned = false := by decide +kernel

/-- HELD on A, evidence standing against both rigs: a pin to B is obeyed, and its evidence is reported at the
pin itself (R132); GROUP_CLEAR in REHEARSAL reports what goes on standing afresh (assumption log 50). -/
theorem test_would_move_of_a_pin_and_a_clear :
    let bad := { playing 93101 145 with faults := { FaultSet.empty with stall := true } }
    let p := fun m => { show' m with rigA := bad, rigB := bad }
    let told := fun m => { (withGroup0 (p m) .held .a true).setGroup 0
      { (withGroup0 (p m) .held .a true).group 0 with reported := true } with members := firstChannels 48 }
    let q := after (.groupPin .addressed [0, 1]) (on (told .shows))
    let c := after (.groupClear .addressed [0]) (on (told .rehearsal))
    (q.group 0).refRig = .b ∧ (q.group 0).reported = true ∧
      q.link.notices[(3 : Fin 8)] = some ⟨.wouldMove 0 .stall, 1⟩ ∧
      c.link.notices[(3 : Fin 8)] = some ⟨.wouldMove 0 .stall, 1⟩ := by decide +kernel

/-- A closure of the last period and, after it, a pin of the new one begin a ramp each: the first advances in
the new period and the second waits (R141, R142). -/
theorem test_ramps_of_two_periods :
    let p := (show' .shows).setGroup 1
      { (show' .shows).group 1 with settings := { GroupSettings.default with panel := false } }
    let q := after (.contactClosure .contactB) (on { p with panel := { p.panel with b := ⟨true, false, 10, 0⟩ } })
    let q := after (.groupPin .addressed [1, 1]) (on q)
    let t := after (.coreSamplePeriod {}) (on q)
    (q.group 1).state = .fading ⟨0, 480, 0, .sinceLast 1⟩ ∧
      (t.group 0).state = .fading ⟨0, 480, 1, .older⟩ ∧ (t.group 1).state = .fading ⟨0, 480, 0, .older⟩ := by
  decide +kernel

/-- In STANDBY a pin holds at once, with no ramp and no notice (R131). -/
theorem test_group_pin_in_standby :
    let q := after (.groupPin .addressed [0, 1]) State.reset
    (q.group 0).state = .held ∧ (q.group 0).source = .b ∧
      q.link.notices = State.reset.part.link.notices := by decide +kernel

theorem test_group_unpin :
    answer (.groupUnpin .addressed [0]) (on (withGroup0 (show' .shows) .held .a true)) =
      some (.ok, [0, 0, 0, 0, 0xFF, 0, 0]) := by decide +kernel

/-! ### Panel (the operator takes control, chapter 7) -/

/-- At step 192 the closure of CONTACT_A reverses the pinned fade: start weight 19,661 over 192. -/
theorem test_contact_closure_reverses :
    let p := withGroup0 (show' .shows) (.fading ⟨0, 480, 192, .older⟩) .a true
    let q := after (.contactClosure .contactA) (on { p with panel := { p.panel with a := ⟨true, false, 10, 0⟩ } })
    (q.group 0).state = .fading ⟨19661, 192, 0, .sinceLast 0⟩ ∧ (q.group 0).source = .b ∧
      (q.group 0).pinned = true ∧ q.panel.a.closures = 1 := by decide +kernel

theorem test_contact_opening :
    let p := show' .shows
    let q := after (.contactOpening .contactB) (on { p with panel := { p.panel with b := ⟨false, true, 10, 3⟩ } })
    q.panel.b = ⟨false, false, 0, 3⟩ := by decide +kernel

/-! ### Timecode -/

theorem test_tc_set_after_reset :
    answer (.tcSet .addressed []) State.reset =
      some (.ok, [1, 0, 50, 0, 1, 0, 0xFF, 0xFF, 0xFF, 1, 0]) := by decide +kernel

/-- In FREEWHEEL the marker of the cadence names the next frame (R161). -/
theorem test_tc_cadence_marker :
    let p := show' .shows
    let tc := { p.tc with state := .freewheel, fOut := some 93101, cadence := 1919 }
    let q := (after .tcCadenceMarker (on { p with tc := tc })).tc
    q.fOut = some 93102 ∧ q.freewheelCount = 1 ∧ q.sending = markerBytes .r25 93102 .playing := by
  decide +kernel

theorem test_freewheel_limit :
    let p := show' .shows
    let tc := { p.tc with state := .freewheel, fOut := some 93101, freewheelCount := 50 }
    (after .freewheelLimitReached (on { p with tc := tc })).tc.state = .hold := by decide +kernel

/-! ### Command link -/

/-- Address 5 opens a request to unit 5, and address 6 does not (R167). -/
theorem test_address_character :
    (after (.addressCharacter 5 true) State.reset).link.rx = .collecting .addressed [] ∧
      (after (.addressCharacter 6 true) State.reset).link.rx = .idle := by decide +kernel

/-- CHECK 0xCC completes RIG_STATUS for rig B, which is answered OK. -/
theorem test_data_character_completes :
    let s := on (State.reset.part.setRx (.collecting .addressed [0x03, 0x30, 0x01]))
    answer (.dataCharacter 0xCC true) s = some (.ok, [1, 0, 1, 0, 0, 0, 0, 0, 0, 0, 0, 0, 0, 0]) ∧
      answer (.dataCharacter 0xCD true) s = some (.badCheck, []) := by decide +kernel

theorem test_character_gap :
    let q := after .characterGap (on (State.reset.part.setRx (.collecting .addressed [0x03])))
    q.link.rx = .idle ∧ q.link.errors = 1 := by decide +kernel

theorem test_drain_quiet :
    let q := after .drainQuiet (on (State.reset.part.setRx .draining))
    q.link.reply = some ⟨0x00, .badLength, [], false, false⟩ := by decide +kernel

theorem test_reply_start_and_end :
    let p := (State.reset.part.setRx .replying).setReply (some ⟨0x01, .ok, [], false, false⟩)
    let q := (State.reset.part.setRx .replying).setReply (some ⟨0x01, .ok, [], true, false⟩)
    (after .replyStart (on p)).drivesLink = true ∧ (after (.replyEnd 5 0) (on q)).link.rx = .idle ∧
      (after (.replyEnd 5 0) (on q)).drivesLink = false := by decide +kernel

/-- A RESTART leaves the marker in progress to TC_OUT (R156, R177). -/
theorem test_restart_keeps_the_marker :
    let p := (show' .shows).setReply (some ⟨0x0F, .ok, [], true, true⟩)
    let q := after (.replyEnd 5 0) (on { p with tc := { p.tc with sending := [2, 1, 0xF3] }, tcOut := some 4 })
    q.mode = .standby ∧ q.tc.sending = [2, 1, 0xF3] ∧ q.tcOut = some 4 := by decide +kernel

theorem test_identify :
    answer (.identify .addressed []) State.reset = some (.ok, [0x48, 0x12, 1, 5, 0]) := by decide +kernel

/-- MOVED and RIG_CHANGE pending: the bitmap is 0b00000110 (chapter 10). -/
theorem test_status_shows_the_pending_kinds :
    let p := show' .shows
    let n := ((p.link.notices.set 7 none).set 1 (some ⟨.moved 1 .a .b .link, 2⟩)).set 2
      (some ⟨.rigChange true true, 2⟩)
    (answer (.status .addressed []) (on { p with link := { p.link with notices := n } })).map
      (fun a => a.2.getD 20 0) = some 0b00000110 := by decide +kernel

theorem test_restart_replies_first :
    let q := after (.restart .addressed []) (on (show' .shows))
    q.mode = .shows ∧ q.link.reply = some ⟨0x0F, .ok, [], false, true⟩ := by decide +kernel

/-- MOVED, count 2, detail (1, A, B, LINK), comes before RIG_CHANGE (chapter 10). -/
theorem test_notice_read :
    let p := show' .shows
    let n := (p.link.notices.set 1 (some ⟨.moved 1 .a .b .link, 2⟩)).set 2 (some ⟨.rigChange true true, 2⟩)
    answer (.noticeRead .addressed []) (on { p with link := { p.link with notices := n } }) =
      some (.ok, [2, 2, 1, 0, 1, 0]) := by decide +kernel

theorem test_notice_mask :
    let q := after (.noticeMask .addressed [0x80]) State.reset
    State.reset.part.attn = true ∧ q.attn = false ∧ q.link.notices = State.reset.part.link.notices := by
  decide +kernel

/-! ### Show store (a save during the show, chapter 11) -/

theorem test_slot_save_accepted :
    let q := after (.slotSave .addressed (2 :: [0x4C])) (on { show' .shows with map := liveMap })
    answer (.slotSave .addressed (2 :: [0x4C])) (on { show' .shows with map := liveMap }) =
      some (.accepted, [2, 3]) ∧ (q.store.slot 2).state = .writing := by decide +kernel

/-- The erase phase ends at 11,520, and the write phase of 40 records takes 1,920 + 36 × 40 = 3,360, so
that the save completes 14,880 sample periods after its acceptance. -/
theorem test_save_phases :
    (after .saveErasePhaseEnd (on (working (.saveErase 2 fortyRecords 11519)))).store.activity =
        .saveErase 2 fortyRecords 11519 ∧
      (after .saveErasePhaseEnd (on (working (.saveErase 2 fortyRecords 11520)))).store.activity =
        .saveWrite 2 fortyRecords 0 ∧ erasePeriods + writePeriods 40 = 14880 := by decide +kernel

theorem test_save_completion :
    ((after .saveCompletion (on (working (.saveWrite 2 fortyRecords 3359)))).store.slot 2).state = .writing ∧
      ((after .saveCompletion (on (working (.saveWrite 2 fortyRecords 3360)))).store.slot 2).state =
        .valid := by decide +kernel

theorem test_slot_erase_busy :
    answer (.slotErase .addressed [3]) (on (working (.erase 2 0))) = some (.busy, []) := by decide +kernel

theorem test_erase_completion :
    let q := after .eraseCompletion (on (working (.erase 2 11520)))
    (q.store.slot 2) = ⟨.empty, false, [], none⟩ ∧
      q.link.notices[(7 : Fin 8)] = some ⟨.store (some 2) .erased, 2⟩ := by decide +kernel

/-- In SHOW a load is refused WRONG_MODE, in STANDBY during the save BUSY (chapter 11). -/
theorem test_slot_load_refusals :
    answer (.slotLoad .addressed [2]) (on (working (.saveErase 2 fortyRecords 8000))) = some (.wrongMode, []) ∧
      answer (.slotLoad .addressed [2])
        (on { working (.saveErase 2 fortyRecords 8000) with mode := .standby }) = some (.busy, []) := by
  decide +kernel

theorem test_slot_info :
    answer (.slotInfo .addressed [2]) (on (working (.saveErase 2 fortyRecords 8000))) =
      some (.ok, [2, 3, 0, 40, 1, 0x4C]) := by decide +kernel

theorem test_slot_lock_and_boot :
    answer (.slotLock .addressed [2, 1]) State.reset = some (.ok, [2, 1]) ∧
      answer (.slotBoot .addressed [0xFF]) State.reset = some (.ok, [0xFF]) := by decide +kernel

/-! ### Witnesses: concrete states and operands that meet the hypotheses of each statement -/

theorem hears_on (p : Part) (h : p.atWork = true ∧ p.link.rx = .idle ∧ p.link.listenOnly = false) :
    (on p).hears := h

/-- A part as a handover command leaves its Watch: what the rules of a handover judge from. -/
def judged (c : Instr) (p : Part) : Part := { p with watch := (after c (on p)).watch }

theorem reset_hears : State.reset.hears := by
  refine ⟨?_, ?_, ?_⟩ <;> decide +kernel

theorem show_hears (m : Mode) : (on (show' m)).hears := by
  cases m <;> refine hears_on _ ⟨?_, ?_, ?_⟩ <;> decide +kernel

theorem live_hears : liveShow.hears := by
  refine ⟨?_, ?_, ?_⟩ <;> decide +kernel

/-- The groups of a show state with group 0 in a given state are sound where group 0 is. -/
theorem sound_withGroup0 (m : Mode) (st : GroupState) (x : Rig) (pin : Bool)
    (h : Group.Sound m { Group.settledOn GroupSettings.default .a with
      state := st, source := x, pinned := pin }) :
    (withGroup0 (show' m) st x pin).GroupsSound := by
  intro g
  fin_cases g
  · exact h
  all_goals rfl

theorem witness_StepTakesTheFrontCommand : State.reset.pending = [] := rfl

/-- A well-formed request and its refusal codes; and a VALID slot 2 whose sum is not its contents'. -/
theorem witness_AddressedRequestIsAnswered :
    (Instr.slotSave .addressed (List.replicate 59 0)).request =
        some (0x70, .addressed, List.replicate 59 0) ∧
      (Instr.slotSave .addressed (List.replicate 59 0)).wellFormed = true ∧ State.reset.hears ∧
      16 ≤ Result.badCheck.code.toNat ∧ ¬16 ≤ Result.endOfWalk.code.toNat ∧
      (Instr.slotLoad .addressed [u8 (2 : Fin 8)]).request = some (0x72, .addressed, [u8 (2 : Fin 8)]) :=
  ⟨rfl, by decide, reset_hears, by decide, by decide, rfl⟩

/-- A unit at work and IDLE, and one that is listen-only. -/
theorem witness_BroadcastHonoursFourRequests :
    State.reset.part.atWork = true ∧ State.reset.part.link.rx = .idle ∧
      State.reset.part.link.listenOnly = false ∧ (Link.reset 31 0).rx = .idle ∧
      (Link.reset 31 0).listenOnly = true ∧ (List.replicate 59 (0 : Byte)).length ≤ 59 ∧
      (Instr.status .broadcast []).request = some (0x02, .broadcast, []) ∧
      (Instr.status .broadcast []).wellFormed = true :=
  ⟨by decide, rfl, by decide, rfl, by decide, by decide, rfl, by decide⟩

theorem witness_CharactersCarryARequest :
    State.reset.hears ∧ (Instr.modeSet .broadcast [2]).request = some (0x60, .broadcast, [2]) ∧
      (Instr.modeSet .broadcast [2]).wellFormed = true ∧
      (Instr.slotSave .addressed (List.replicate 59 0)).wellFormed = true ∧
      (frameCharacters (State.reset.part.link.addressOf .addressed) 0x30 [0x01]) =
        [.addressCharacter 5 true, .dataCharacter 0x03 true, .dataCharacter 0x30 true,
          .dataCharacter 0x01 true, .dataCharacter 0xCC true] :=
  ⟨reset_hears, rfl, by decide, by decide, by decide⟩

theorem witness_AddressCharactersAndGaps :
    State.reset.part.atWork = true ∧ State.reset.part.link.rx = .idle ∧
      (State.reset.part.setRx (.collecting .addressed [3])).link.rx = .collecting .addressed [3] ∧
      (State.reset.part.setRx .draining).link.rx = .draining ∧
      (State.reset.part.setRx .replying).link.rx = .replying ∧
      (31 < (32 : Byte).toNat ∧ (31 : Byte).toNat ≤ 31) ∧
      (5 : Byte).toNat = State.reset.part.link.unitAddr.toNat :=
  ⟨by decide, rfl, rfl, rfl, rfl, by decide, by decide⟩

/-- In COLLECTING: LEN 2 and 61 against 1 and 62; CODE next with LEN 3; a wrong CHECK for a LEN of 2; and the
right one after a CODE, 0x99, that names no request. -/
theorem witness_DataCharacterJoinsTheRequest :
    State.reset.part.atWork = true ∧ State.reset.part.link.rx = .idle ∧
      (State.reset.part.setRx (.collecting .broadcast [])).link.rx = .collecting .broadcast [] ∧
      (2 ≤ (2 : Byte).toNat ∧ (61 : Byte).toNat ≤ 61 ∧ (1 : Byte).toNat < 2 ∧ 61 < (62 : Byte).toNat) ∧
      (State.reset.part.setRx (.collecting .addressed [3])).link.rx = .collecting .addressed (3 :: []) ∧
      ([] : List Byte).length + 1 < (3 : Byte).toNat ∧
      (State.reset.part.setRx (.collecting .addressed [2, 1])).link.rx = .collecting .addressed (2 :: [1]) ∧
      ([1] : List Byte).length + 1 = (2 : Byte).toNat ∧ byteSum ((2 : Byte) :: [1] ++ [0]) % 256 ≠ 0 ∧
      byteSum ((2 : Byte) :: [0x99] ++ [0x65]) % 256 = 0 ∧
      ∀ (c : Instr) (w : Via) (body : List Byte), c.request ≠ some (([0x99] ++ [0x65]).getD 0 0, w, body) := by
  refine ⟨by decide, rfl, rfl, by decide, rfl, by decide, rfl, by decide, by decide, by decide, ?_⟩
  intro c w body h
  cases c <;> simp [Instr.request] at h

theorem witness_RepliesStartAndEnd :
    State.reset.part.atWork = true ∧ (State.reset.part.setRx .draining).link.rx = .draining ∧
      (State.reset.part.setRx .draining).link.reply = none ∧ State.reset.part.link.rx ≠ .draining ∧
      (∃ r, (State.reset.part.setReply (some ⟨1, .ok, [], false, false⟩)).link.reply = some r ∧
        r.started = false) ∧
      ∃ r, (State.reset.part.setReply (some ⟨1, .ok, [], true, false⟩)).link.reply = some r ∧
        r.started = true ∧ r.restarts = false :=
  ⟨by decide, rfl, rfl, by decide, ⟨_, rfl, rfl⟩, _, rfl, rfl, rfl⟩

/-- A RESTART reply about to end; boot slot none, EMPTY, DAMAGED, and VALID with its own sum. -/
theorem witness_RestartIsTakenAtTheEndOfItsReply :
    let st := State.reset.part.store
    let w : Stored := ⟨fortyRecords, contentSum fortyRecords⟩
    State.reset.hears ∧ ([0] : List Byte) ≠ [] ∧ State.reset.part.atWork = true ∧
      (∃ r, (State.reset.part.setReply (some ⟨0x0F, .ok, [], true, true⟩)).link.reply = some r ∧
        r.started = true ∧ r.restarts = true) ∧ st.boot = none ∧ { st with boot := some 5 }.boot = some 5 ∧
      (st.slot 5).state = .empty ∧ ((st.setSlot 5 ⟨.damaged, false, [], none⟩).slot 5).state = .damaged ∧
      ((st.setSlot 5 ⟨.valid, false, [], some w⟩).slot 5).stored = some w ∧ contentSum w.contents = w.sum :=
  ⟨reset_hears, by decide, by decide, ⟨_, rfl, rfl, rfl⟩, rfl, rfl, by decide, by decide, rfl, rfl⟩

theorem witness_IdentifyTellsThePart :
    State.reset.hears ∧ ([0] : List Byte) ≠ [] ∧
      (Part.afterReset 31 0 0 false false false .manufactured).link.unitAddr = 31 :=
  ⟨reset_hears, by decide, rfl⟩

theorem witness_StatusReportsEveryBlock : State.reset.hears ∧ ([0] : List Byte) ≠ [] :=
  ⟨reset_hears, by decide⟩

/-- After reset STORE alone is pending: the lowest kind, unmasked, with every kind above it clear; masked,
no unmasked kind is pending. The kind codes end at 1 and 8. -/
theorem witness_RaisedNoticesAreReadAndCleared :
    State.reset.hears ∧
      (∀ k : Fin 8, State.reset.part.link.notices[k] = none ∨ (0x80 : Byte).getLsbD k = true) ∧
      State.reset.part.link.notices[(7 : Fin 8)] = some ⟨.store none .bootEmpty, 1⟩ ∧
      State.reset.part.link.mask.getLsbD 7 = false ∧
      (∀ j : Fin 8, j < 7 → State.reset.part.link.notices[j] = none ∨
        State.reset.part.link.mask.getLsbD j = true) ∧
      State.reset.part.link.notices[(0 : Fin 8)] = none ∧ 8 < (9 : Byte).toNat ∧
      2 ≤ ([1, 1] : List Byte).length :=
  ⟨reset_hears, by decide +kernel, by decide +kernel, by decide, by decide +kernel, by decide +kernel,
    by decide, by decide⟩

theorem witness_NoticeMaskIsReadAndReplaced :
    State.reset.hears ∧ State.reset.part.link.notices[(7 : Fin 8)] = some ⟨.store none .bootEmpty, 1⟩ ∧
      2 ≤ ([1, 1] : List Byte).length ∧ (List.replicate 59 (0 : Byte)).length ≤ 59 :=
  ⟨reset_hears, by decide +kernel, by decide, by decide⟩

/-- A frame of 147 zero bytes is well-formed; good runs of 62 and 63; bad runs of 0, 2 and 3; a buffer in
FILLING, and RUNNING with 15 and 16 frames, with a marker timeout reached by the 8 frames of a drop and one
short of it. -/
theorem witness_LaneLockTable :
    let bytes : List Byte := List.replicate 147 0
    State.reset.part.atWork = true ∧ bytes.length = 147 ∧
      byteSum (bytes.take 145) % 65536 = num2 (bytes.getD 145 0) (bytes.getD 146 0) ∧
      RigPort.reset.lock = .unlocked ∧ { RigPort.reset with goodRun := 62 }.goodRun < 63 ∧
      { RigPort.reset with goodRun := 63 }.goodRun = 63 ∧ (playing 0 0).lock = .locked ∧
      (playing 0 0).badRun < 3 ∧ { playing 0 0 with badRun := 3 }.badRun = 3 ∧
      (playing 0 0).gainLock.bufState = .filling ∧ (playing 0 0).bufState = .running ∧
      (List.replicate 15 Frame.silent).length < 16 ∧ (List.replicate 16 Frame.silent).length = 16 ∧
      3 * Rate.spf .r25 + 7 ≤ min 65535 ((playing 0 5759).n + 8) ∧
      ¬3 * Rate.spf .r25 + 7 ≤ min 65535 ((playing 0 5758).n + 8) := by decide +kernel

/-- The cases of what the judge leaves of a group: group 0 without evidence; with rig A lost, in REHEARSAL, and
in SHOW with the default HOLD_OFF, and with HOLD_OFF 0 where B is ready over a fade of 480 and of 0, and where
it is not; and an unpinned fade from A to a lost B, at a weight on B above 0 and at 0, with A ready, and one in
REHEARSAL. The statements that name SettledJudged, FadeJudged, Reverses or PinsTo have their own states
below. -/
theorem witness_judged_groups :
    let lose := fun p : Part =>
      { p with rigA := RigPort.reset, align := { p.align with d := none, aligned := false } }
    let quick := fun (p : Part) (len : Nat) =>
      p.setGroup 0 (Group.settledOn { GroupSettings.default with holdOff := 0, fadeLen := len } .a)
    let lost := lose (show' .shows)
    let stuck := { lost with rigB := { lost.rigB with run := some .stopped } }
    let turn := fun (m : Mode) (j : Nat) =>
      withGroup0 { show' m with rigB := RigPort.reset } (.fading ⟨0, 480, j, .older⟩) .a false
    (show' .shows).evidence 0 .a = false ∧ (lose (show' .rehearsal)).evidence 0 .a = true ∧
      (lost.mode = .shows ∧ lost.policy 0 = .auto ∧ lost.evidence 0 .a = true ∧
        (lost.group 0).settings.holdOff ≠ 0 ∧ ((quick lost 0).group 0).settings.holdOff = 0) ∧
      (lost.ready 0 .b = true ∧ (quick lost 480).fadeLength 0 .b = 480 ∧
        (quick lost 0).fadeLength 0 .b = 0 ∧ stuck.ready 0 .b = false) ∧
      ((turn .shows 192).policy 0 = .auto ∧ (turn .shows 192).evidence 0 .b = true ∧
        (turn .shows 192).ready 0 .a = true ∧ (Ramp.mk 0 480 192 .older).weight ≠ 0 ∧
        (Ramp.mk 0 480 0 .older).weight = 0 ∧ (turn .rehearsal 192).mode ≠ .shows) := by decide +kernel

/-- Rig A is LOCKED with a bad run of 3, position-valid, and the current source; rig B is not. -/
theorem witness_LossEventEffects :
    let p := { show' .shows with rigA := { playing 93101 100 with badRun := 3 } }
    let q := { show' .shows with rigB := { playing 93101 100 with badRun := 3 } }
    p.atWork = true ∧ (p.rig .a).lock = .locked ∧ (p.rig .a).badRun = 3 ∧ (p.rig .a).posValid = true ∧
      p.clock.current = laneSource .a ∧ (q.rig .b).badRun = 3 ∧ q.clock.current ≠ laneSource .b ∧
      (p.group 0).state = .settled ∧ (p.group 0).source = .a ∧ (p.group 0).returnExpired = false ∧
      p.hasMembers 0 = true ∧ p.evidence 0 .a = false := by
  decide +kernel

/-- A hunting assembler completes no marker. -/
theorem hunting_completes_none {r : RigPort} (h : r.asm = .hunting) (f : Frame) : (r.assemble f).2 = none := by
  simp only [RigPort.assemble, h]
  split <;> rfl

/-- Two rigs within their markers, without CLOCK, both hunting; a block in progress, one whose completion is
due with no skew pending, and a 48th period that takes its boundary. -/
theorem witness_LaneEventsSetDeltasAndLeaveTheRest :
    (show' .shows).atWork = true ∧ (∀ x, (show' .shows).Punctual {} x) ∧
      (∀ x f, (((show' .shows).rig x).assemble f).2 = none) ∧ (show' .shows).blockPhase < 48 ∧
      (show' .shows).align.pendingSkew = none ∧
      { show' .shows with blockPhase := 47 }.BoundaryWithin { boundary := .first } :=
  ⟨by decide, fun x => by cases x <;> simp only [Part.Punctual] <;> decide,
    fun x => hunting_completes_none (by cases x <;> rfl), by decide, rfl, by decide⟩

/-- n at 5,767 and at 5,766; a complete restore timer of a lane before the current source, of one that is
current, one at 239,999, and an UNLOCKED lane; CLOCK with a slip 480,000 sample periods old and 479,999, and no
CLOCK; a group whose source times out; and a buffer at fill 0, one that holds a frame, and one within a
repeat. -/
theorem witness_LaneTimersTakeEffectWhenDue :
    let p := { show' .shows with rigA := playing 93101 5767, rigB := playing 93101 5766 }
    let due := 3 * p.align.settings.rate.spf + 7
    let q := { p with clock := { p.clock with current := .int } }
    let r := { playing 0 0 with faults := ⟨false, false, false, false, true⟩, slipNewer := some 480000 }
    p.atWork = true ∧ (p.rig .a).run = some .playing ∧ due ≤ (p.rig .a).n ∧ (p.rig .b).n < due ∧
      (q.rig .a).lock = .locked ∧ q.clock.timer .a = some 240000 ∧ laneSource .a ∈ q.clock.earlier ∧
      laneSource .a ∉ p.clock.earlier ∧ r.faults.clock = true ∧ r.slipNewer = some 480000 ∧
      (p.rig .a).faults.clock = false ∧ { r with slipNewer := some 479999 }.slipNewer = some 479999 ∧ 479999 < 480000 ∧
      { q.clock with timerA := some 239999 }.timer .a ≠ some 240000 ∧ RigPort.reset.lock = .unlocked ∧
      ((p.group 0).state = .settled ∧ (p.group 0).source = .a ∧ (p.group 0).returnExpired = false ∧
        p.hasMembers 0 = true ∧ p.evidence 0 .a = false) ∧
      ((playing 0 0).bufState = .running ∧ (playing 0 0).repeatLeft = 0 ∧ (playing 0 0).frames = [] ∧
        { playing 0 0 with frames := [flat 1 0] }.frames ≠ [] ∧
        { playing 0 0 with repeatLeft := 7 }.repeatLeft ≠ 0) := by decide +kernel

theorem witness_RigStatusAndRigClear :
    State.reset.hears ∧ 1 < (2 : Byte).toNat ∧ ([0, 0] : List Byte).length ≠ 1 ∧
      ([] : List Byte).length ≠ 1 :=
  ⟨reset_hears, by decide, by decide, by decide⟩

theorem liveMap_sound : liveMap.Sound := by
  refine ⟨by decide, ?_, by decide⟩
  intro x id h
  cases x <;> (simp only [SegMap.held, liveMap, Option.some.injEq] at h; subst h; decide)

/-- An assembler with 5 and 6 bytes; a good marker of chapter 1 and one with another CHECK; markers at a
distance of 0, 1 and 2 from the expected frame, with JUMP_TOL 1; and a STOPPED marker at the last frame of
song 2 before its TAIL, and at the first frame of the TAIL. -/
theorem witness_MarkersMoveTheTracker :
    let good : List Byte := [0x01, 0x02, 0x03, 0x04, 0x02, 0x01, 0xF3]
    let song := record 11 95000 5200 80
    (good.take 5).length < 6 ∧ (good.take 6).length = 6 ∧ byteSum good % 256 = 0 ∧
      byteSum [0x01, 0x02, 0x03, 0x04, 0x02, 0x01, 0xF4] % 256 ≠ 0 ∧
      Rate.code .r25 = 0x02 ∧ Transport.code .playing = 0x01 ∧
      RigPort.reset.seqBase = false ∧ (playing 90003 100).seqBase = true ∧
      dayDistance .r25 90004 ((90003 + 1) % Rate.dayFrames .r25) = 0 ∧
      dayDistance .r25 90005 ((90003 + 1) % Rate.dayFrames .r25) = 1 ∧
      dayDistance .r25 90006 ((90003 + 1) % Rate.dayFrames .r25) = 2 ∧ ShowSettings.reset.jumpTol = 1 ∧
      SegRecord.mk song false ∈ liveMap.recs ∧ 100119 + song.tail < song.start + song.length ∧
      ∀ e ∈ liveMap.recs, e.seg.start ≤ 100120 → 100120 < e.seg.start + e.seg.length →
        e.seg.start + e.seg.length ≤ 100120 + e.seg.tail := by decide

/-- Rig A alone holds record 11, RETIRING, and its marker names a frame of the gap before record 17, where it
leaves the record, or a frame within, where it stays; a marker in REHEARSAL. In a core sample period rig A's
frame completes a good marker, one with another CHECK, and none, with rig B's assembler hunting, both ports
punctual at the last value of n, and no slip. -/
theorem witness_MarkersMoveTheTracker_in_a_period :
    let m := { liveMap.retire 11 with heldB := none }
    let p := { liveShow.part with map := m, mode := .rehearsal }
    let r : SegRecord := ⟨record 11 95000 5200 80, true⟩
    let held : List Byte := [0x01, 0x02, 0x03, 0x04, 0x02, 0x01]
    let a := fun (check : Byte) => { playing 93078 5765 with frames := [flat 0 check], asm := .collecting held }
    let q := { show' .shows with rigA := a 0xF3, rigB := playing 93078 5765 }
    (m.Sound ∧ r ∈ m.recs ∧ r.retiring = true ∧ m.held .a = some 11 ∧ m.held .b ≠ some 11 ∧
      (p.goodMarker .a 100200 .playing).map.held .a ≠ some 11 ∧
      (p.goodMarker .a 100199 .stopped).map.held .a = some 11 ∧ p.mode ≠ .shows) ∧
      (q.atWork = true ∧ (a 0xF3).bufState = .running ∧ (a 0xF3).frames ≠ [] ∧
        ((a 0xF3).assemble (flat 0 0xF3)).2 = some (held ++ [0xF3]) ∧
        ((playing 0 0).assemble (flat 0 0)).2 = none ∧
        (judgeMarker .r25 (held ++ [0xF3])).isSome = true ∧ judgeMarker .r25 (held ++ [0xF4]) = none) ∧
      (∀ x, (q.rig x).n + 1 < 3 * q.align.settings.rate.spf + 7 ∧ (q.rig x).faults.clock = false) ∧
      ∀ f, ((q.rig .b).assemble f).2 = none := by
  refine ⟨⟨⟨by decide, ?_, by decide⟩, by decide, rfl, rfl, by decide, by decide +kernel, by decide +kernel,
    by decide⟩, by decide +kernel, fun x => by cases x <;> decide, fun f => ?_⟩
  · intro x id h
    cases x with
    | a => obtain rfl : 11 = id := Option.some.inj h; decide
    | b => exact nomatch h
  · have hunts : (playing 93078 5765).asm = .hunting := rfl
    show ((playing 93078 5765).assemble f).2 = none
    simp only [RigPort.assemble, hunts]
    split <;> rfl

theorem witness_MarkersAndFramesSentAreGood :
    2159999 < Rate.dayFrames .r25 ∧ (List.replicate 48 (0x800000 : Sample)).length = 48 := by decide

/-- A show state with group 0 fading, its ramp running, and a command waiting. -/
def waiting : State := ⟨withGroup0 (show' .shows) (.fading ⟨0, 480, 479, .older⟩) .a true, [.landing 0]⟩

theorem witness_EveryStepKeepsTheRigPorts :
    waiting.part.rigA.Sound ∧ waiting.part.rigB.Sound ∧ ∃ t, step waiting = .next t := by
  refine ⟨⟨?_, ?_, ?_, ?_, ?_⟩, ⟨?_, ?_, ?_, ?_, ?_⟩, _, rfl⟩ <;> decide

theorem witness_ClockSetReordersThePreference :
    State.reset.hears ∧ (Source.laneA ≠ .laneB ∧ Source.laneA ≠ .int ∧ Source.laneB ≠ .int) ∧
      2 < (3 : Byte).toNat ∧ ([0, 1] : List Byte).length ≠ 3 :=
  ⟨reset_hears, by decide, by decide, by decide⟩

theorem witness_EveryStepKeepsTheClockUsable :
    waiting.part.ClockSound ∧ ∃ t, step waiting = .next t :=
  ⟨⟨by decide, by decide, by decide, by decide⟩, _, rfl⟩

/-- The rate in force in SHOW; another rate in STANDBY with an empty map, in SHOW, and in STANDBY with a
record that ends beyond its day; both rigs position-valid, and neither, with D none; and the generator in
FOLLOW and in OFF. -/
theorem witness_ShowSetReadsAndWrites :
    State.reset.hears ∧ (show' .shows).align.settings.rate = .r25 ∧
      (State.reset.part.mode = .standby ∧
        ∀ r ∈ State.reset.part.map.recs, r.seg.start + r.seg.length ≤ Rate.dayFrames .r24) ∧
      Rate.r24 ≠ State.reset.part.align.settings.rate ∧ (show' .shows).mode ≠ .standby ∧
      (∃ r ∈ [SegRecord.mk (record 1 2073600 1 0) false], Rate.dayFrames .r24 < r.seg.start + r.seg.length) ∧
      (26 : Byte) ≠ 24 ∧ ([25] : List Byte).length ≠ 4 ∧
      ((on (show' .standby)).hears ∧ (show' .standby).rigA.posValid = true ∧
        (show' .standby).tc.state ≠ .off) ∧
      (let u := State.reset.part.align
       u.d = none ∧ u.stale = false ∧ u.pendingSkew = none ∧ u.aligned = false) ∧
      { State.reset.part.tc with state := .off }.state = .off ∧
      (⟨.r25, min 48 (4 : Byte).toNat, min 10 (1 : Byte).toNat, max 1 (min 250 (25 : Byte).toNat)⟩ :
        ShowSettings) = State.reset.part.align.settings :=
  ⟨reset_hears, rfl, ⟨rfl, by decide⟩, by decide, by decide, ⟨_, List.mem_singleton.2 rfl, by decide⟩,
    by decide, by decide, ⟨show_hears _, by decide⟩, by decide⟩

/-- In SHOW group 0 draws from rig A, which is not silent; in STANDBY both rigs are silent. Rig A's n at the
largest that is measured, SPF + 7, and one beyond. -/
theorem witness_TheSkewFollowsTheOffset :
    let p := { show' .shows with rigA := playing 93101 1927 }
    let late := { show' .shows with rigA := playing 93101 1928 }
    (show' .shows).atWork = true ∧ (show' .shows).silent .a = false ∧
      (show' .standby).silent .a = true ∧ (show' .standby).silent .b = true ∧
      { show' .standby with blockPhase := 48 }.blockPhase = 48 ∧ (show' .standby).handedOver = false ∧
      { (show' .standby).align with pendingSkew := some 37 }.pendingSkew = some 37 ∧
      37 ≠ (show' .standby).align.s ∧
      (p.rig .b).run = some .playing ∧ (p.rig .a).posValid = true ∧ (p.rig .a).run = some .playing ∧
      (p.rig .a).n ≤ p.align.settings.rate.spf + 7 ∧ ¬(late.rig .a).n ≤ late.align.settings.rate.spf + 7 ∧
      p.rigA.position .r25 = some (93101 * 1920 + 1927) ∧
      p.rigB.position .r25 = some (93101 * 1920 + 145) := by decide +kernel

/-- Rig A's marker completes, in STANDBY with closures to come and with every group HELD, in a period within
its block and in a 48th one with the boundary before it, between and after it; rig B is hunting. -/
theorem witness_TheSkewFollowsTheOffset_in_a_period :
    let a := { playing 93078 5765 with
      frames := [flat 0 0xF3], asm := .collecting [0x01, 0x02, 0x03, 0x04, 0x02, 0x01] }
    let p := { show' .standby with
      rigA := a, blockPhase := 47, align := { (show' .standby).align with pendingSkew := some 5 } }
    let held := { p with
      mode := .shows, groups := p.groups.map fun (r : Group) => { r with state := .held, pinned := true } }
    let first : Orders := { boundary := .first, contacts := [.contactA] }
    (p.atWork = true ∧ p.mode = .standby ∧ p.handedOver = false ∧ p.blockPhase ≠ 48 ∧
      (judgeMarker .r25 [0x01, 0x02, 0x03, 0x04, 0x02, 0x01, 0xF3]).isSome = true ∧
      (a.assemble a.nextFrame).2 = some [0x01, 0x02, 0x03, 0x04, 0x02, 0x01, 0xF3] ∧ a.frames ≠ [] ∧
      p.BoundaryWithin first ∧ p.BoundaryWithin { boundary := .between, advanceLast := true } ∧
      ¬p.BoundaryWithin {} ∧ ¬{ p with blockPhase := 46 }.BoundaryWithin first) ∧
      (∀ x, p.Punctual first x) ∧ (∀ f, (p.rigB.assemble f).2 = none) ∧
      (∀ g, (held.group g).state = .held) ∧ ∀ k, (held.panel.get k).change < 10 :=
  ⟨by decide, fun x => by cases x <;> simp only [Part.Punctual] <;> decide, hunting_completes_none rfl,
    by decide +kernel, fun k => by cases k <;> decide⟩

/-- A waiting step; skews at both ends and at 0, and a sample that the longest delay reads. -/
theorem witness_EveryStepKeepsTheAlignment :
    (waiting.part.AlignedSound ∧ waiting.part.align.SkewSound ∧ ∃ t, step waiting = .next t) ∧
      let u := fun (s : Int) => { AlignmentUnit.reset with s := s }
      (0 < (u 511).s ∧ (u 0).s = 0 ∧ (u (-511)).s < 0) ∧
        (u 511).lineB[delayOf (u 511).s .b]? = some silentAudio ∧
        (u (-511)).lineA[delayOf (u (-511)).s .a]? = some silentAudio :=
  ⟨⟨by show true = _; decide, ⟨by decide, by decide, fun _ h => nomatch h⟩, _, rfl⟩, by decide +kernel⟩

/-- A record with every field at an end of its range: SEG_ID 4095, the last frame of the day, LENGTH 1. -/
theorem witness_RecordBodiesRoundTrip :
    let r : Segment := ⟨4095, 2159999, 1, 1, .manualOnly, some 4800,
      allGroups.map fun g => (g, .any), List.replicate 16 0x7E⟩
    1 ≤ r.id ∧ r.id ≤ 4095 ∧ r.length ≤ 65535 ∧ 1 ≤ r.length ∧ r.start + r.length ≤ Rate.dayFrames .r25 ∧
      r.tail ≤ r.length ∧ r.tail ≤ 255 ∧ r.fade = some 4800 ∧ r.expect.length ≤ 12 ∧
      (r.expect.map Prod.fst).Nodup ∧ r.label.length ≤ 16 ∧
      ∀ c ∈ r.label, 0x20 ≤ c.toNat ∧ c.toNat ≤ 0x7E := by decide

/-- A record body with the fields that the checks and the clamps concern, START at frame 94,500. -/
def bodyWith (id length tail flag fade pairs labelLength : Nat) (rest : List Byte) : List Byte :=
  be16 id ++ be24 94500 ++ be16 length ++ [u8 tail, 0, u8 flag] ++ be16 fade ++ [u8 pairs] ++
    rest.take pairs ++ [u8 labelLength] ++ rest.drop pairs

/-- Bodies of wrong lengths (13 bytes, a label of 17, one byte too many), bodies of right ones with a value
out of place (SEG_ID 0 and 4,096, LENGTH 0, a span beyond the day, a flag of 2, 13 pairs, an expectation of 0
and of 4, a group twice, a label character 0x1F and 0x7F), and bodies that carry a record, clamped and not. -/
theorem witness_RecordBodiesRoundTrip_bodies :
    (¬RecordShaped (List.replicate 13 0) ∧
      ¬RecordShaped (bodyWith 16 500 0 0 0 0 17 (List.replicate 17 0x41)) ∧
      ¬RecordShaped (bodyWith 16 500 0 0 0 0 0 [0x41])) ∧
    (∀ b ∈ [bodyWith 0 500 0 0 0 0 0 [], bodyWith 4096 500 0 0 0 0 0 [], bodyWith 16 0 0 0 0 0 0 [],
        bodyWith 16 500 0 2 0 0 0 [], bodyWith 16 500 0 0 0 13 0 (List.replicate 13 0x11),
        bodyWith 16 500 0 0 0 1 0 [0x10], bodyWith 16 500 0 0 0 1 0 [0x14],
        bodyWith 16 500 0 0 0 2 0 [0x11, 0x12], bodyWith 16 500 0 0 0 0 1 [0x1F],
        bodyWith 16 500 0 0 0 0 1 [0x7F]],
      RecordShaped b ∧ ¬RecordValued .r25 b) ∧
    (let r := fun (length tail : Nat) (fade : Option Nat) =>
       (⟨16, 94500, length, tail, .auto, fade, [(5, .quiet)], [0x41]⟩ : Segment)
     ∀ e ∈ [(bodyWith 16 500 200 1 4800 1 1 [0x52, 0x41], r 500 200 (some 4800), false),
        (bodyWith 16 100 200 1 4801 1 1 [0x52, 0x41], r 100 100 (some 4800), true),
        (bodyWith 16 500 200 0 4801 1 1 [0x52, 0x41], r 500 200 none, false)],
      RecordShaped e.1 ∧ RecordValued .r25 e.1 ∧ e.2.1.CarriedBy e.1 e.2.2) := by
  refine ⟨by decide +kernel, by decide +kernel, by decide +kernel⟩

/-- The live map takes record 16 in its gap, refuses a second record 11 and one that meets record 11; 160
records fill a map. -/
theorem witness_SegInsertAddsARecord :
    liveShow.hears ∧ (record 16 94500 500 0).body.length ≤ 59 ∧
      (¬RecordShaped [] ∧ RecordShaped (bodyWith 0 500 0 0 0 0 0 []) ∧
        ¬RecordValued .r25 (bodyWith 0 500 0 0 0 0 0 [])) ∧
      (let b := (record 16 94500 500 0).body
       RecordShaped b ∧ RecordValued .r25 b ∧ (record 16 94500 500 0).CarriedBy b false) ∧
      liveMap.Sound ∧ liveMap.recs.length < 160 ∧
      (∀ q ∈ liveMap.recs, q.seg.id ≠ (record 16 94500 500 0).id) ∧
      (∀ q ∈ liveMap.recs, q.seg.overlaps (record 16 94500 500 0) = false) ∧
      (∃ q ∈ liveMap.recs, q.seg.id = 11) ∧
      (∃ q ∈ liveMap.recs, ∃ f, q.seg.contains f = true ∧ (record 21 100199 600 0).contains f = true) ∧
      160 ≤ (List.replicate 160 (SegRecord.mk (record 1 0 1 0) false)).length ∧
      RigPort.reset.posValid = false ∧ (liveShow.part.rig .a).posValid = true :=
  ⟨live_hears, by decide, by decide +kernel,
    by decide +kernel, liveMap_sound, by decide, by decide, by decide,
    ⟨_, .tail _ (.head _), rfl⟩, ⟨_, .tail _ (.head _), 100199, by decide, by decide⟩,
    by decide +kernel, rfl, rfl⟩

/-- Record 11 is shortened, absent, RETIRING, and made to meet record 17; and an empty body. Both rigs of the
live show are position-valid inside record 11. -/
theorem witness_SegAmendReplacesARecord :
    liveShow.hears ∧ (record 11 95000 3000 80).body.length ≤ 59 ∧
      (¬RecordShaped [] ∧ RecordShaped (bodyWith 11 0 0 0 0 0 0 []) ∧
        ¬RecordValued .r25 (bodyWith 11 0 0 0 0 0 0 [])) ∧
      (let b := (record 11 95000 3000 80).body
       RecordShaped b ∧ RecordValued .r25 b ∧ (record 11 95000 3000 80).CarriedBy b false) ∧
      liveMap.find 12 = none ∧
      (∃ old, liveMap.find 11 = some old ∧ old.retiring = false) ∧
      (∃ old, (liveMap.retire 11).find 11 = some old ∧ old.retiring = true) ∧
      liveMap.Sound ∧ (liveShow.part.rig .a).posValid = true ∧
      (∀ q ∈ liveMap.recs, q.seg.id ≠ 11 → q.seg.overlaps (record 11 95000 3000 80) = false) ∧
      ∃ q ∈ liveMap.recs, q.seg.id ≠ 11 ∧
        ∃ f, q.seg.contains f = true ∧ (record 11 95000 6501 80).contains f = true :=
  ⟨live_hears, by decide, by decide +kernel,
    by decide +kernel, by decide, ⟨_, rfl, rfl⟩, ⟨_, rfl, rfl⟩,
    liveMap_sound, rfl, by decide, _, .tail _ (.tail _ (.head _)), by decide, 101500, by decide, by decide⟩

/-- SEG_IDs 0, 1, 4095 and 4096; records that are absent, held, not held and RETIRING. -/
theorem witness_SegRetireRemovesOrDefers :
    liveShow.hears ∧ num2 0 0 = 0 ∧ 4095 < num2 0x10 0x00 ∧ num2 0x0F 0xFF = 4095 ∧
      liveMap.find (num2 0x0F 0xFF) = none ∧ 1 ≤ num2 0 17 ∧
      (∃ r, liveMap.find (num2 0 17) = some r ∧ r.retiring = false) ∧ liveMap.heldA ≠ some (num2 0 17) ∧
      liveMap.heldB ≠ some (num2 0 17) ∧ liveMap.heldA = some (num2 0 11) ∧
      (∃ r, (liveMap.retire 11).find (num2 0 11) = some r ∧ r.retiring = true) ∧
      ([0] : List Byte).length ≠ 2 :=
  ⟨live_hears, by decide, by decide, by decide, by decide, by decide, ⟨_, rfl, rfl⟩, by decide, by decide,
    by decide, ⟨_, rfl, rfl⟩, by decide⟩

/-- Frames 94,499 (the last of record 10), 94,500 (the gap before record 11), 106,900 (past the last
record) and 2,160,000 (past the day). -/
theorem witness_LookupsReadTheMap :
    liveShow.hears ∧ liveMap.find (num2 0 11) ≠ none ∧ liveMap.find (num2 0 12) = none ∧
      2160000 ≤ num3 0x20 0xF5 0x80 ∧ liveMap.wf = true ∧
      (∃ r ∈ liveMap.recs, r.seg.contains (num3 0x01 0x71 0x23) = true) ∧
      (∀ q ∈ liveMap.recs, 1 ≤ q.seg.length) ∧
      (∀ q ∈ liveMap.recs, q.seg.contains (num3 0x01 0x71 0x24) = false) ∧
      (∃ r ∈ liveMap.recs, num3 0x01 0x71 0x24 < r.seg.start ∧
        ∀ q ∈ liveMap.recs, num3 0x01 0x71 0x24 < q.seg.start → r.seg.start ≤ q.seg.start) ∧
      ∀ q ∈ liveMap.recs, q.seg.contains (num3 0x01 0xA1 0x94) = false ∧
        q.seg.start ≤ num3 0x01 0xA1 0x94 :=
  ⟨live_hears, by decide, by decide, by decide, by decide, by decide, by decide, by decide, by decide,
    by decide⟩

/-- Cursor indexes 159 and 160; a cursor that is stale, at a record, and past the last one. -/
theorem witness_MapClearAndTheCursor :
    liveShow.hears ∧ liveShow.part.mode ≠ .standby ∧ State.reset.hears ∧ State.reset.part.mode = .standby ∧
      (159 : Byte).toNat ≤ 159 ∧ 159 < (160 : Byte).toNat ∧ liveMap.cursorGen ≠ liveMap.generation ∧
      (let m := { liveMap with cursorGen := 6, cursorIndex := 2 }
       m.cursorGen = m.generation ∧ ∃ r, m.recs[m.cursorIndex]? = some r) ∧
      let m := { liveMap with cursorGen := 6, cursorIndex := 3 }
      m.cursorGen = m.generation ∧ m.recs.length ≤ m.cursorIndex :=
  ⟨live_hears, by decide, reset_hears, rfl, by decide, by decide, by decide, ⟨rfl, _, rfl⟩, rfl, by decide⟩

theorem witness_EveryStepKeepsTheMap :
    let s : State := ⟨liveShow.part, [.segRetire .addressed [0, 11]]⟩
    s.part.MapSound ∧ ∃ t, step s = .next t := by
  refine ⟨⟨liveMap_sound, fun k w h => ?_, fun k c n h => ?_⟩, _, rfl⟩
  · fin_cases k <;> exact nomatch h
  · rcases h with h | h <;> exact nomatch h

/-- A handover that is due, for the completion and for the two rows that make it ahead, and one made ahead;
with group 0 CONFIRMING with evidence and without, SETTLED with evidence and without, HELD, STRANDED, in a
pinned fade, and in an unpinned one to a lost rig B with A ready. -/
theorem witness_BlockCompletionJudgesTheBlock :
    let p := { show' .shows with blockPhase := 48 }
    let lost := { p with rigA := { RigPort.reset with fLast := 93101 } }
    let at' := fun (q : Part) (st : GroupState) => withGroup0 q st .a false
    let bc : Instr := .blockCompletion false false false
    let away := p.setGroup 0
      ⟨{ GroupSettings.default with returnMode := .autoInGap }, .settled, .b, false, 29999, false, 0, false⟩
    let w : GroupWatch := ⟨1999, 1998, 0, 0, false, false, true⟩
    p.atWork = true ∧ p.handedOver = false ∧ p.align.pendingSkew = none ∧ p.hasMembers 0 = true ∧
      w.armed = true ∧ { p with handedOver := true }.handedOver = true ∧
      ({ p with map := liveMap, groups := p.groups.set 0 { p.group 0 with
        settings := { GroupSettings.default with defaultExpect := .active } } }).expectation 0 = .active ∧
      (at' lost (.confirming 1)).holdOffDue = true ∧ away.returnDue = true ∧
      (judged bc (at' lost (.confirming 2))).evidence 0 .a = true ∧ (at' lost (.confirming 2)).policy 0 = .auto ∧
      (judged bc (at' p (.confirming 2))).evidence 0 .a = false ∧
      (judged bc (at' lost .settled)).evidence 0 .a = true ∧ (judged bc away).evidence 0 .b = false ∧
      (judged bc away).ready 0 .a = true ∧
      (judged bc (at' lost .stranded)).evidence 0 .a = true ∧
      (withGroup0 p .held .a true |>.group 0).state = .held ∧
      (withGroup0 p (.fading ⟨0, 480, 1, .older⟩) .a true |>.group 0).pinned = true ∧
      (let turn := at' { p with rigB := RigPort.reset } (.fading ⟨0, 480, 192, .older⟩)
       (turn.group 0).state = .fading ⟨0, 480, 192, .older⟩ ∧ (turn.group 0).pinned = false ∧
         turn.policy 0 = .auto ∧ (judged bc turn).evidence 0 .b = true ∧
         (judged bc turn).ready 0 .a = true) := by
  decide +kernel

/-- A 48th period that takes its boundary, both rigs hunting: in STANDBY with no fade, and with every group
HELD. -/
theorem witness_BlockCompletionJudgesTheBlock_in_a_period :
    let p := { show' .standby with blockPhase := 47 }
    let held := { p with
      mode := .shows, groups := p.groups.map fun (r : Group) => { r with state := .held, pinned := true } }
    let o : Orders := { boundary := .between }
    (p.atWork = true ∧ p.BoundaryWithin o ∧ held.BoundaryWithin o ∧ p.mode = .standby ∧ o.contacts = []) ∧
      (∀ x, p.Punctual o x) ∧ (∀ x f, ((p.rig x).assemble f).2 = none) ∧
      (∀ g, (p.group g).isFading = false) ∧ (∀ g, (held.group g).state = .held) ∧
      ∀ k, (held.panel.get k).change < 10 :=
  ⟨by decide, fun x => by cases x <;> simp only [Part.Punctual] <;> decide,
    fun x => hunting_completes_none (by cases x <;> rfl), by decide, by decide +kernel,
    fun k => by cases k <;> decide⟩

/-- Group 0 has the members of reset; a rig with each fault alone, and without any; a mismatch; rig A inside
record 11 of the live map and in the gap of an empty one; and a record that lists group 0 and not group 1. -/
theorem witness_GroupReportsReadTheGroup :
    (State.reset.hears ∧ 11 < (12 : Byte).toNat ∧ ([0, 0] : List Byte).length ≠ 1) ∧
      (∃ c : Fin 48, State.reset.part.members[c] = 0) ∧
      (RigPort.reset.faults.link = true ∧ (playing 0 0).faults = ⟨false, false, false, false, false⟩ ∧
        ((playing 0 0).raiseFault .clock).faults = ⟨false, false, false, false, true⟩) ∧
      { GroupWatch.reset with mismatchA := true }.mismatchA = true ∧
      ((liveShow.part.group 0).refRig = .a ∧ liveShow.part.map.held .a = some 11 ∧
        (liveShow.part.map.find 11).isSome = true ∧ State.reset.part.map.held .a = none) ∧
      let r := { record 11 95000 5200 80 with expect := [(0, .quiet)] }
      (0, Expect.quiet) ∈ r.expect ∧ (r.expect.map Prod.fst).Nodup ∧ ∀ e, ((1 : Fin 12), e) ∉ r.expect := by
  refine ⟨⟨reset_hears, by decide, by decide⟩, ⟨0, by decide⟩, by decide, rfl, by decide +kernel,
    by decide, by decide, fun e => by cases e <;> decide⟩

/-- Settings at the ends of their ranges, and at the ends of what their bytes carry. -/
theorem witness_GroupSetStoresWhatItReadsBack :
    let low : GroupSettings := ⟨.a, 0, 0, 0, 0, .active, .manual, 0, false⟩
    let high : GroupSettings := ⟨.b, 65535, 65535, 16777215, 65535, .any, .autoInGap, 65535, true⟩
    let whole : GroupSettings := ⟨.b, 4800, 500, 8388608, 60000, .quiet, .autoInGap, 600, true⟩
    State.reset.hears ∧ low.threshold < 16777216 ∧
      (high.fadeLen < 65536 ∧ high.holdOff < 65536 ∧ high.threshold < 16777216 ∧
        high.quietWindow < 65536 ∧ high.returnDelay < 65536) ∧
      (min 4800 whole.fadeLen = whole.fadeLen ∧ max 1 (min 8388608 whole.threshold) = whole.threshold) ∧
      (State.reset.part.group 0).settings = GroupSettings.default ∧
      11 < (12 : Byte).toNat ∧ 3 < (4 : Byte).toNat ∧ ([0, 0] : List Byte).length ≠ 16 :=
  ⟨reset_hears, by decide, by decide, by decide, by decide +kernel, by decide, by decide, by decide⟩

/-- All 48 channels to group 1: from group 0 fading, from group 0 on the other rig in SHOW, and settled on
the same rig. -/
theorem witness_GroupAssignMovesChannels :
    let fade := withGroup0 (show' .shows) (.fading ⟨0, 480, 1, .older⟩) .a false
    let away := withGroup0 (show' .shows) .settled .b false
    (on fade).hears ∧ (on away).hears ∧ 1 ≤ allChannels.length ∧ allChannels.Nodup ∧
      (∃ c ∈ allChannels, fade.members[c] = 0) ∧ (fade.group 0).isFading = true ∧
      (∀ h, (away.group h).isFading = false) ∧ away.mode ≠ .standby ∧
      (away.group 0).source ≠ (away.group 1).source ∧
      (∀ h, ((show' .shows).group h).isFading = false ∧
        ((show' .shows).group h).source = ((show' .shows).group 1).source) ∧
      (show' .standby).mode = .standby :=
  ⟨hears_on _ (by decide), hears_on _ (by decide), by decide, by decide, by decide +kernel, by decide +kernel,
    by decide +kernel, by decide, by decide +kernel, by decide +kernel, rfl⟩

/-- In SHOW and in REHEARSAL, with group 0 SETTLED and in an unpinned fade. -/
theorem witness_ModeSetAndEntryIntoStandby :
    let fade := withGroup0 (show' .rehearsal) (.fading ⟨0, 480, 192, .older⟩) .a false
    (on (show' .shows)).hears ∧ (on fade).hears ∧ (show' .shows).mode = .shows ∧
      (show' .rehearsal).mode ≠ .standby ∧ 2 < (3 : Byte).toNat ∧ ([] : List Byte).length ≠ 1 ∧
      ((show' .rehearsal).group 0).state = .settled ∧ ((show' .rehearsal).group 0).returnExpired = false ∧
      (fade.group 0).state = .fading ⟨0, 480, 192, .older⟩ ∧ (fade.group 0).pinned = false :=
  ⟨show_hears _, hears_on _ (by decide), by decide +kernel⟩

/-- Group 0 fading; settled at home; held at home; away with home not ready; away in STANDBY; away with
home ready and the default fade length, and with a fade length of 0. -/
theorem witness_GroupHomeTable :
    let fade := withGroup0 (show' .shows) (.fading ⟨0, 480, 1, .older⟩) .a false
    let held := withGroup0 (show' .shows) .held .a true
    let away := withGroup0 (show' .shows) .settled .b false
    let lost := { away with rigA := RigPort.reset }
    let rest := withGroup0 (show' .standby) .settled .b false
    let short := show' .shows |>.setGroup 0
      { Group.settledOn { GroupSettings.default with fadeLen := 0 } .b with pinned := false }
    (on fade).hears ∧ (on held).hears ∧ (on away).hears ∧ (on lost).hears ∧ (on rest).hears ∧
      (fade.group 0).isFading = true ∧ ((show' .shows).group 0).source = .a ∧
      ((show' .shows).group 0).state ≠ .held ∧ (held.group 0).state = .held ∧ (held.group 0).source = .a ∧
      (away.group 0).source ≠ (away.group 0).settings.home ∧ lost.ready 0 .a = false ∧
      away.ready 0 .a = true ∧ away.fadeLength 0 .a = 480 ∧ rest.mode = .standby ∧
      short.ready 0 .a = true ∧ short.fadeLength 0 .a = 0 :=
  ⟨hears_on _ (by decide), hears_on _ (by decide), hears_on _ (by decide), hears_on _ (by decide),
    hears_on _ (by decide), by decide +kernel⟩

/-- Group 0 fading to B, pinned to B and to A; in STANDBY; and HELD on A with both rigs STALLED, reported
against A and pinned to B, over 480 samples and over none; and not yet reported, pinned to A; in SHOW with every
other group HELD, and in REHEARSAL. -/
theorem witness_GroupPinHoldsOrFades :
    let bad := { playing 93101 145 with faults := { FaultSet.empty with stall := true } }
    let held := withGroup0 { show' .shows with rigA := bad, rigB := bad } .held .a true
    let told := held.setGroup 0 { held.group 0 with reported := true }
    let short := told.setGroup 0 { told.group 0 with settings := { GroupSettings.default with fadeLen := 0 } }
    let fade := withGroup0 (show' .shows) (.fading ⟨0, 480, 1, .older⟩) .a false
    (on fade).hears ∧ (fade.group 0).refRig = .b ∧ (fade.group 0).isFading = true ∧ fade.mode ≠ .standby ∧
      State.reset.hears ∧ State.reset.part.mode = .standby ∧ (State.reset.part.group 0).source = .a ∧
      (State.reset.part.group 0).isFading = false ∧ 11 < (12 : Byte).toNat ∧ 1 < (2 : Byte).toNat ∧
      ([0] : List Byte).length ≠ 2 ∧ (on told).hears ∧ (on short).hears ∧ (on held).hears ∧
      told.mode ≠ .standby ∧ told.evidence 0 .b = true ∧ (told.group 0).refRig ≠ .b ∧
      (told.group 0).isFading = false ∧ (told.group 0).source ≠ .b ∧ told.fadeLength 0 .b = 480 ∧
      short.fadeLength 0 .b = 0 ∧ held.evidence 0 .a = true ∧ (held.group 0).reported = false ∧
      (fade.group 0).refRig ≠ .a ∧ (fade.group 0).state = .fading ⟨0, 480, 1, .older⟩ ∧
      (show' .rehearsal).mode ≠ .shows ∧
      (∀ h, h ≠ 0 →
        (((show' .shows).modGroups fun r => { r with state := .held, pinned := true }).group h).state = .held) := by
  and_intros <;> first | exact reset_hears | exact hears_on _ (by decide) | decide +kernel

/-- Group 0 HELD and in a pinned fade, in REHEARSAL and in SHOW. -/
theorem witness_UnpinAndClearRelease :
    let fade := withGroup0 (show' .shows) (.fading ⟨0, 480, 192, .older⟩) .a true
    (on fade).hears ∧ fade.GroupsSound ∧ (fade.group 0).state = .fading ⟨0, 480, 192, .older⟩ ∧
      ((withGroup0 (show' .shows) .held .a true).group 0).state = .held ∧
      ((withGroup0 (show' .shows) .held .a true).group 0).returnExpired = false ∧
      (on (withGroup0 (show' .rehearsal) .held .b true)).hears ∧
      (withGroup0 (show' .rehearsal) .held .b true).GroupsSound ∧
      (withGroup0 (show' .rehearsal) .held .b true).mode ≠ .shows :=
  ⟨hears_on _ (by decide), sound_withGroup0 _ _ _ _
      ⟨by decide, by decide, by decide, by decide, by decide⟩, by decide +kernel, by decide +kernel,
    by decide +kernel, hears_on _ (by decide), sound_withGroup0 _ _ _ _ rfl, by decide⟩

/-- Rig A lost, group 0 one block short of its expiry: with B ready and a fade of 480 or 0, and with B
stopped; rig A without faults; and hold-offs with more to run, a block within, and a handover made. -/
theorem witness_HoldOffExpiryDecides :
    let p := { show' .shows with blockPhase := 48 }
    let lost := { p with rigA := RigPort.reset, align := { p.align with d := none, aligned := false } }
    let s := withGroup0 lost (.confirming 1) .a false
    let z := lost.setGroup 0 { Group.settledOn { GroupSettings.default with fadeLen := 0 } .a with
      state := .confirming 1 }
    let h := { s with rigB := { s.rigB with run := some .stopped } }
    let back := withGroup0 p (.confirming 1) .a false
    let c : Instr := .holdOffExpiry
    s.atWork = true ∧ s.blockPhase = 48 ∧ s.handedOver = false ∧ s.align.pendingSkew = none ∧
      (s.group 0).state = .confirming 1 ∧ s.mode = .shows ∧ s.hasMembers 0 = true ∧ s.policy 0 = .auto ∧
      (judged c s).evidence 0 .a = true ∧ (judged c s).ready 0 .b = true ∧ s.fadeLength 0 .b ≠ 0 ∧
      (z.group 0).state = .confirming 1 ∧ (judged c z).ready 0 .b = true ∧ z.fadeLength 0 .b = 0 ∧
      (judged c h).evidence 0 .a = true ∧ (judged c h).ready 0 .b = false ∧
      (judged c back).evidence 0 .a = false ∧ (back.group 0).returnCount = 0 ∧
      (show' .shows).blockPhase ≠ 48 ∧ { s with handedOver := true }.handedOver = true := by
  decide +kernel

theorem witness_LandingSettlesOrHolds :
    let s := withGroup0 (show' .shows) (.fading ⟨0, 480, 479, .older⟩) .a false
    let t := withGroup0 (show' .shows) (.fading ⟨0, 480, 478, .older⟩) .a true
    s.atWork = true ∧ (s.group 0).state = .fading ⟨0, 480, 479, .older⟩ ∧ (480 ≤ 479 + 1) ∧
      (s.group 0).returnExpired = false ∧ s.evidence 0 .b = false ∧ (s.group 0).pinned = false ∧
      (t.group 0).state = .fading ⟨0, 480, 478, .older⟩ ∧ 478 + 1 < 480 ∧ (t.group 0).pinned = true := by
  decide +kernel

/-- Away from home without evidence, one block short of RETURN_DELAY and expired: in the gap, and inside
record 11; and two blocks short. -/
theorem witness_ExpiredReturnGoesHome :
    let set := { GroupSettings.default with returnMode := .autoInGap }
    let away := fun (q : Part) (n : Nat) (x : Bool) => q.setGroup 0 ⟨set, .settled, .b, false, n, x, 0, false⟩
    let gap := { show' .shows with blockPhase := 48 }
    let song := { gap with map := liveMap }
    let p := away gap 29999 false
    let q := away song 29999 false
    let c : Instr := .returnTimerExpiry
    p.atWork = true ∧ p.handedOver = false ∧ p.align.pendingSkew = none ∧ p.returnRuns 0 = true ∧
      (p.group 0).returnExpired = false ∧ set.returnDelay ≤ 600 ∧
      set.returnDelay * 1000 ≤ (p.group 0).returnCount + 1 ∧ (judged c p).returnRuns 0 = true ∧
      (judged c p).evidence 0 .b = false ∧ p.map.inGap .b = true ∧ q.returnRuns 0 = true ∧
      (judged c q).returnRuns 0 = true ∧ (judged c q).evidence 0 .b = false ∧ q.map.inGap .b = false ∧
      (away gap 30000 true).returnRuns 0 = true ∧ (away gap 30000 true).evidence 0 .b = false ∧
      ((away gap 29998 false).group 0).returnCount + 1 < set.returnDelay * 1000 := by decide +kernel

theorem waiting_sound : waiting.part.GroupsSound :=
  sound_withGroup0 _ _ _ _ ⟨by decide, by decide, by decide, by decide, by decide⟩

theorem waiting_inRange : waiting.part.SettingsInRange := by
  refine ⟨fun g => ?_, (fun r h => nomatch h), fun k w h => ?_, fun k c n h => ?_⟩
  · fin_cases g <;> exact ⟨by decide, by decide, by decide, by decide, by decide, by decide, by decide, by decide⟩
  · fin_cases k <;> exact nomatch h
  · rcases h with h | h <;> exact nomatch h

theorem witness_EveryStepKeepsTheGroupRecords :
    waiting.part.GroupsSound ∧ waiting.part.SettingsInRange ∧ (∃ t, step waiting = .next t) ∧
      (show' .shows).FollowsLeader ∧
      ∃ t, step ⟨show' .shows, [.groupPin .addressed [0, 1]]⟩ = .next t :=
  ⟨waiting_sound, waiting_inRange, ⟨_, rfl⟩, by show (_ : Rig) = _; decide +kernel, _, rfl⟩

/-- A sample period in REHEARSAL with a pinned fade under way, at contacts that stand at 8, and at 9 with a
boundary within it that takes no closure; and a lane's loss. -/
theorem witness_NoAutomaticMoveOutsideShow :
    let p := withGroup0 (show' .rehearsal) (.fading ⟨0, 480, 479, .older⟩) .a true
    (Instr.missingFrame .a).isEvent = true ∧ (∀ k, Instr.missingFrame .a ≠ .contactClosure k) ∧
      (p.panel.a.change < 9 ∧ p.panel.b.change < 9 ∧ p.panel.free.change < 9) ∧
      (9 < 10 ∧ { p with blockPhase := 47 }.blockPhase ≠ 48 ∧ Orders.contacts { boundary := .first } = []) ∧
      p.GroupsSound ∧ p.mode ≠ .shows ∧ ∃ t, exec (.missingFrame .a) (on p) = .next t :=
  ⟨rfl, (fun _ h => nomatch h), by decide, by decide, sound_withGroup0 _ _ _ _
    ⟨by decide, by decide, by decide, by decide, by decide⟩, by decide, _, rfl⟩

/-- A pin to the other rig with a save in flight, with an erase in flight, and with none; and a fade that may
be reversed. -/
theorem witness_EntryIntoFadingLeavesNothingInFlight :
    let s := on (working (.saveErase 2 fortyRecords 5))
    s.hears ∧ s.part.mode ≠ .standby ∧ (s.part.group 0).source ≠ .b ∧
      (working (.erase 2 0)).store.activity = .erase 2 0 ∧ (show' .shows).store.activity = .idle ∧
      (withGroup0 (show' .shows) (.fading ⟨0, 480, 0, .older⟩) .a false |>.group 0).isFading = true ∧
      s.part.store.activity.slot = some 2 ∧
      ∃ t, exec (.groupPin .addressed [0, 1]) s = .next t ∧ (s.part.group 0).isFading = false ∧
        (t.part.group 0).isFading = true := by
  refine ⟨hears_on _ (by decide +kernel), ?_, ?_, rfl, rfl, ?_, rfl, _, rfl, ?_, ?_⟩ <;> decide +kernel

/-- A closure due on each contact, in STANDBY and in SHOW, with a PANEL group and one that is not; an opening
due; and every group on A, a PANEL group, for which CONTACT_A needs no ramp and CONTACT_B needs twelve, in SHOW
and in REHEARSAL. -/
theorem witness_PanelClosuresPinAndRelease :
    let n : Panel := ⟨⟨true, false, 10, 255⟩, ⟨true, false, 10, 0⟩, ⟨false, true, 10, 0⟩⟩
    let p := withGroup0 { show' .shows with panel := n } .held .a true
    let q := p.setGroup 1 { p.group 1 with settings := { GroupSettings.default with panel := false } }
    p.atWork = true ∧ (p.panel.get .contactA).change = 10 ∧ (p.panel.get .contactA).closed = false ∧
      (p.panel.get .contactB).change = 10 ∧ (p.panel.get .contactB).closed = false ∧
      (p.panel.get .contactFree).change = 10 ∧ (p.panel.get .contactFree).closed = true ∧
      p.mode ≠ .standby ∧ State.reset.part.mode = .standby ∧ (p.group 0).settings.panel = true ∧
      (q.group 1).settings.panel = false ∧ (withGroup0 (show' .shows) .held .a true).GroupsSound ∧
      { p with rigA := RigPort.reset, rigB := RigPort.reset }.evidence 0 .a = true ∧
      { p with rigA := RigPort.reset, rigB := RigPort.reset }.evidence 0 .b = true ∧
      (∀ g, (p.group g).settings.panel = true ∧ (p.group g).refRig = .a) ∧
      (show' .rehearsal).mode ≠ .shows := by
  and_intros <;> first | exact sound_withGroup0 _ _ _ _ rfl | rfl | decide +kernel

/-- CONTACT_A at its tenth differing reading, with a group whose hold-off expires, at a completion that is due
and at one within its period; it is taken before the handover. -/
theorem witness_PanelClosuresPinAndRelease_before_the_handover :
    let n : Panel := ⟨⟨true, false, 9, 255⟩, ⟨true, false, 8, 0⟩, ⟨false, true, 8, 0⟩⟩
    let p := withGroup0 { show' .shows with panel := n, blockPhase := 48 } (.confirming 1) .b false
    let o : Orders := { boundary := .between, contactsFirst := [.contactA] }
    let was := p.panel.get .contactA
    (p.atWork = true ∧ was.rawClosed = true ∧ was.closed = false ∧ was.change = 9 ∧ p.blockPhase = 48 ∧
      { p with blockPhase := 47 }.BoundaryWithin o ∧ o.contactsFirst = [.contactA] ∧ p.mode ≠ .standby ∧
      (p.group 0).settings.panel = true ∧ (p.group 0).refRig = .b) ∧
      (∀ d, d ≠ .contactA → (p.panel.get d).change < 9) ∧ ∀ x, p.Punctual o x :=
  ⟨by decide +kernel, fun d h => by cases d <;> first | exact absurd rfl h | decide,
    fun x => by cases x <;> simp only [Part.Punctual] <;> decide⟩

/-- A sample period in SHOW within a block, one that meets a block's end, and one in STANDBY; a buffer that
gives a frame, one at fill 0, one within a repeat, and one that is IDLE; n at the last value before a
timeout; a pinned ramp with a step to go, at its last step, and begun in this very period, at a completion, at
the second arrival with one of the last period, and with both; an unpinned ramp in SHOW toward a rig with a
frame to give, no evidence and no marker; and TC_OUT idle and at a marker's last byte. -/
theorem witness_SamplePeriodFormsTheOutput :
    let ramp := fun (j : Nat) (age : RampAge) => withGroup0 (show' .shows) (.fading ⟨0, 480, j, age⟩) .a true
    (show' .shows).atWork = true ∧ (show' .shows).blockPhase = 0 ∧
      { show' .shows with blockPhase := 48 }.blockPhase = 48 ∧ (show' .shows).handedOver = false ∧
      (show' .shows).mode ≠ .standby ∧ State.reset.part.atWork = true ∧
      State.reset.part.mode = .standby ∧ (playing 0 0).bufState = .running ∧
      (playing 0 0).repeatLeft = 0 ∧ (playing 0 0).frames = [] ∧
      { playing 0 0 with frames := [flat 1 0] }.frames = flat 1 0 :: [] ∧
      { playing 0 0 with repeatLeft := 7 }.repeatLeft ≠ 0 ∧ RigPort.reset.bufState ≠ .running ∧
      (playing 0 5766).asm = .hunting ∧ (playing 0 5766).n < 3 * Rate.spf .r25 + 7 ∧
      (∀ k, ((show' .shows).panel.get k).change < 10) ∧
      ((ramp 478 .older).group 0).state = .fading ⟨0, 480, 478, .older⟩ ∧
      ((ramp 478 .older).group 0).pinned = true ∧ 478 + 1 < 480 ∧ 480 ≤ 479 + 1 ∧
      ((ramp 479 .thisPeriod).group 0).state = .fading ⟨0, 480, 479, .thisPeriod⟩ ∧
      ((ramp 0 (.sinceLast 2)).group 0).state = .fading ⟨0, 480, 0, .sinceLast 2⟩ ∧
      (¬Orders.ofLast {} < 0 ∧ Orders.ofLast { ofLast := 1 } < 2 ∧ ¬Orders.ofLast { ofLast := 2 } < 2) ∧
      (let p := withGroup0 { show' .shows with rigB := { playing 93101 145 with frames := [flat 1 0] } }
         (.fading ⟨0, 480, 479, .older⟩) .a false
       (p.group 0).pinned = false ∧ p.evidence 0 .b = false ∧ (p.group 0).returnExpired = false ∧
         (p.rigB.assemble p.rigB.nextFrame).2 = none ∧ p.rigB.frames ≠ [] ∧
         p.rigB.n + 1 < 3 * Rate.spf .r25 + 7) ∧
      ({ playing 0 0 with slipNewer := some 479999, slipOlder := some 47998 }.slipOlder = some 47998 ∧
        47998 + 1 < 48000) ∧
      State.reset.part.tc.sending = [] ∧
      { State.reset.part.tc with sending := [0xF3] }.sending = 0xF3 :: [] := by
  have steady : ∀ k, ((show' .shows).panel.get k).change < 10 := fun k => by cases k <;> decide
  and_intros <;> first | exact steady | rfl | decide

/-- A slip by repeat in a punctual period, and a 48th period with its boundary within and after it. -/
theorem witness_SamplePeriodFormsTheOutput_repeat :
    (show' .shows).Punctual { clears := [.a] } .a ∧ (show' .shows).rigA.bufState = .running ∧
      (show' .shows).rigA.repeatLeft = 0 ∧ (show' .shows).rigA.frames = [] ∧
      { show' .shows with blockPhase := 47 }.BoundaryWithin { boundary := .between } ∧
      ¬{ show' .shows with blockPhase := 47 }.BoundaryWithin {} := by
  simp only [Part.Punctual]
  decide

/-- u at 0 and at unity, and blends of −0.5 and 1.5. -/
theorem witness_MixRoundsAndStaysInRange :
    (32768 ≤ 32768 ∧ 0 ≤ 32768) ∧
      (let blend := (BitVec.ofInt 24 (-1)).toInt * (32768 - 16384) + (BitVec.ofInt 24 0).toInt * 16384
       2 * blend = -32768) ∧
      let blend := (BitVec.ofInt 24 1).toInt * (32768 - 16384) + (BitVec.ofInt 24 2).toInt * 16384
      2 * blend = 3 * 32768 := by decide

/-- The ends of the ranges of u0, n and j; a fade at step 0 and one at its last step. -/
theorem witness_RampsRiseAndReverseWithoutAJump :
    (32767 < 32768 ∧ 1 ≤ 1 ∧ 4800 ≤ 4800 ∧ 0 ≤ 1 ∧ 1 ≤ 1) ∧
      (withGroup0 (show' .shows) (.fading ⟨0, 480, 0, .older⟩) .a false).group 0 =
        { (show' .shows).group 0 with state := .fading ⟨0, 480, 0, .older⟩ } ∧
      (Ramp.mk 0 480 0 .older).weight = 0 ∧ (Ramp.mk 0 480 479 .older).weight ≠ 0 ∧ 479 < 480 ∧
      (show' .shows).atWork = true := by
  decide +kernel

/-- The generator of State.reset and one turned off; and a write that differs, in FOLLOW, in FREEWHEEL with a
count of 49 and of 50 against a limit of 50, and in HOLD. -/
theorem witness_TcSetReadsAndWrites :
    ((⟨true, 0, min 250 50, .silent⟩ : TcSettings) ≠ State.reset.part.tc.settings ∧
      State.reset.part.tc.state = .follow ∧
      ({ Timecode.reset with state := .freewheel, freewheelCount := 49 }).freewheelCount < min 250 50 ∧
      min 250 50 ≤ ({ Timecode.reset with state := .freewheel, freewheelCount := 50 }).freewheelCount ∧
      ({ Timecode.reset with state := .hold }).state = .hold) ∧
    State.reset.hears ∧ State.reset.part.tc.settings.enable = true ∧
      ({ State.reset.part.tc with settings := { TcSettings.reset with enable := false } }).settings.enable =
        false ∧ 1 < (2 : Byte).toNat ∧ 11 < (12 : Byte).toNat ∧ 2 < (3 : Byte).toNat ∧
      ([0] : List Byte).length ≠ 4 :=
  ⟨by decide, reset_hears, rfl, rfl, by decide, by decide, by decide, by decide⟩

/-- C one short of SPF in FREEWHEEL, HOLD, RUN_ON, and in FOLLOW on a STOPPED rig; a freewheel count at its
limit and one below; a pending generator; a followed rig PLAYING at frame 93,101 with F_out at 93,100 (a
crossing) and 93,101 (none); and one at a marker timeout or a loss, in REHEARSAL. -/
theorem witness_TheGeneratorFollowsAndKeepsTime :
    let p := show' .shows
    let tc := { p.tc with state := .freewheel, fOut := some 2159999, cadence := 1919, freewheelCount := 50 }
    let q := { p with rigA := { p.rigA with run := some .stopped }, tc := { tc with state := .follow } }
    let out := { show' .rehearsal with
      rigA := { playing 93101 5767 with badRun := 3 }, tc := { p.tc with fOut := some 93100 } }
    let fa := ((((93101 * 1920 + 100 : Nat) : Int) - delayOf p.align.s .a) % 4147200000).toNat / 1920
    (p.atWork = true ∧ tc.fOut = some 2159999 ∧ tc.state = .freewheel ∧ tc.sending = [] ∧ tc.owed = false ∧
      tc.begunAhead = false ∧ p.align.settings.rate.spf ≤ tc.cadence + 1 ∧ q.tc.state = .follow ∧
      (q.rig q.tc.followed).run = some .stopped ∧ tc.settings.freewheelLimit ≤ tc.freewheelCount ∧
      { tc with freewheelCount := 49 }.freewheelCount < tc.settings.freewheelLimit) ∧
      (p.tc.followed = .a ∧ p.tc.state = .follow ∧ p.tc.fOut = none ∧ (p.rig .a).run = some .playing ∧
        (p.rig .a).posValid = true ∧ (p.rig .a).faults.link = false ∧ (p.rig .a).faults.stall = false ∧
        (p.rig .a).faults.jump = false ∧ p.tc.sending = [] ∧ p.tc.owed = false) ∧
      (fa = (93100 + 1) % Rate.dayFrames .r25 ∧ ¬fa = (93101 + 1) % Rate.dayFrames .r25) ∧
      (out.atWork = true ∧ out.tc.fOut.isSome = true ∧ out.mode ≠ .shows ∧
        3 * out.align.settings.rate.spf + 7 ≤ (out.rig .a).n ∧ (out.rig .a).lock = .locked ∧
        (out.rig .a).badRun = 3) ∧ out.FollowsLeader := by
  refine ⟨by decide, by decide, by decide +kernel, by decide, ?_⟩
  show (_ : Rig) = _
  decide +kernel

/-- A new followed rig B whose run state is UNKNOWN, met in FOLLOW with F_out present, and in HOLD; and a core
sample period in REHEARSAL with the contacts at 8, and within a block at 9, in which the followed rig's frame
completes no marker, a good one and a bad one, at the last value of n. -/
theorem witness_TheGeneratorFollowsAndKeepsTime_in_a_period :
    let held : List Byte := [0x01, 0x02, 0x03, 0x04, 0x02, 0x01]
    let p := { show' .rehearsal with
      rigA := { playing 93078 5765 with frames := [flat 0 0xF3], asm := .collecting held }
      rigB := { playing 0 0 with run := none, posValid := false }
      tc := { State.reset.part.tc with state := .follow, fOut := some 93078 } }
    let r := p.rig p.tc.followed
    ((p.rig .b).posValid = false ∧ (p.rig .b).run = none ∧ p.tc.state = .follow ∧ p.tc.fOut.isSome = true ∧
      { p.tc with state := .hold }.state ≠ .follow) ∧
      (p.atWork = true ∧ p.tc.followed = .a ∧ r.n + 1 < 3 * p.align.settings.rate.spf + 7 ∧
        p.mode ≠ .shows ∧ p.tc.state ≠ .freewheel ∧ p.blockPhase < 48 ∧ 8 < 9 ∧ 9 < 10 ∧
        (r.assemble r.nextFrame).2 = some (held ++ [0xF3]) ∧ r.frames ≠ [] ∧
        (judgeMarker .r25 (held ++ [0xF3])).isSome = true ∧ judgeMarker .r25 (held ++ [0xF4]) = none ∧
        ((playing 0 0).assemble (playing 0 0).nextFrame).2 = none) ∧
      p.FollowsLeader ∧ ∀ k, (p.panel.get k).change < 9 := by
  refine ⟨by decide, by decide +kernel, ?_, fun k => by cases k <;> decide⟩
  show (_ : Rig) = _
  decide +kernel

/-- Bodies that the group, map and store requests refuse: of 0, 1, 2, 3, 18 and 50 bytes, with group 12,
channel 48, a channel twice, slot 8, a flag of 2, and a label character at either side of the printable
range (LookupsReadTheMap, MapClearAndTheCursor, GroupAssignMovesChannels, GroupHomeTable,
UnpinAndClearRelease, SavingASlot, ErasingASlotAndItsAttributes, LoadingASlot). -/
theorem witness_RefusedBodies :
    State.reset.hears ∧ ([] : List Byte).length ≠ 1 ∧ ([] : List Byte).length < 2 ∧
      (List.replicate 18 (0 : Byte)).length ≤ 59 ∧ 17 < (List.replicate 18 (0 : Byte)).length ∧
      (List.replicate 50 (0 : Byte)).length ≤ 59 ∧ 49 < (List.replicate 50 (0 : Byte)).length ∧
      ([0] : List Byte).length ≠ 2 ∧ ([0, 0] : List Byte).length ≠ 3 ∧ ([0] : List Byte).length ≠ 0 ∧
      11 < (12 : Byte).toNat ∧ 7 < (8 : Byte).toNat ∧ (8 : Byte) ≠ 0xFF ∧ 1 < (2 : Byte).toNat ∧
      (∃ c ∈ ([0, 48] : List Byte), 47 < c.toNat) ∧ ¬([5, 5] : List Byte).Nodup ∧
      ∀ c ∈ ([0x1F, 0x7F] : List Byte), c.toNat < 0x20 ∨ 0x7E < c.toNat :=
  ⟨reset_hears, by decide⟩

/-- Labels of 16 characters at the ends of the printable range; the store idle, busy and its slot LOCKED;
the phases' last sample periods. -/
theorem witness_SavingASlot :
    let st := { State.reset.part.store with slots := State.reset.part.store.slots.set 2 ⟨.valid, true, [], none⟩ }
    State.reset.hears ∧ (List.replicate 16 (0x7E : Byte)).length ≤ 16 ∧
      (∀ c ∈ [(0x20 : Byte), 0x7E], 0x20 ≤ c.toNat ∧ c.toNat ≤ 0x7E) ∧
      State.reset.part.store.activity = .idle ∧ (State.reset.part.store.slot 2).locked = false ∧
      (st.slot 2).locked = true ∧ (working (.erase 2 0)).store.activity ≠ .idle ∧
      (working (.saveErase 2 fortyRecords 11520)).store.activity = .saveErase 2 fortyRecords 11520 ∧
      (11519 + 1 = 11520 ∧ 14879 - 11520 + 1 = 1920 + 36 * fortyRecords.segs.length ∧
        11520 - 11520 + 1 < 1920 + 36 * fortyRecords.segs.length ∧
        3359 + 1 = 1920 + 36 * fortyRecords.segs.length) ∧
      (Orders.storeFirst { storeFirst := true } = true ∧ ¬Orders.storeFirst {} = true) ∧
      (working (.saveWrite 2 fortyRecords 3360)).store.activity = .saveWrite 2 fortyRecords 3360 ∧
      1920 + 36 * fortyRecords.segs.length ≤ 3360 ∧ 3359 < 1920 + 36 * fortyRecords.segs.length :=
  by and_intros <;> first | exact reset_hears | rfl | decide

theorem witness_ErasingASlotAndItsAttributes :
    State.reset.hears ∧ State.reset.part.store.activity = .idle ∧
      (State.reset.part.store.slot 7).locked = false ∧ (State.reset.part.store.slot 7).state ≠ .writing ∧
      ((working (.erase 2 0)).store.slot 2).state = .writing ∧
      (working (.erase 2 0)).store.activity ≠ .idle ∧
      (working (.erase 2 11520)).store.activity = .erase 2 11520 ∧ 11519 < 11520 ∧ 11519 + 1 = 11520 ∧
      Orders.storeFirst { storeFirst := true } = true :=
  by and_intros <;> first | exact reset_hears | rfl | decide

/-- Slot 2 EMPTY, DAMAGED, and VALID with its own sum and with another; in SHOW; and while the store
works. -/
theorem witness_LoadingASlot :
    let w : Stored := ⟨fortyRecords, contentSum fortyRecords⟩
    let p := State.reset.part
    State.reset.hears ∧ (show' .shows).mode ≠ .standby ∧ p.mode = .standby ∧ p.store.activity = .idle ∧
      (p.store.slot 2).state = .empty ∧ ((p.store.setSlot 2 ⟨.damaged, false, [], none⟩).slot 2).state = .damaged ∧
      ((p.store.setSlot 2 ⟨.valid, false, [], some w⟩).slot 2).stored = some w ∧
      contentSum w.contents = w.sum ∧
      (Stored.mk w.contents (w.sum + 1)).sum ≠ contentSum (Stored.mk w.contents (w.sum + 1)).contents ∧
      (working (.erase 2 0)).store.activity ≠ .idle ∧
      (w.contents.show'.rate = p.align.settings.rate ∧ Rate.r30 ≠ p.align.settings.rate ∧
        (show' .standby).rigA.posValid = true ∧ p.rigA.posValid = false ∧ p.tc.state ≠ .off ∧
        p.align.d = none ∧ p.align.stale = false ∧ p.align.pendingSkew = none ∧ p.align.aligned = false ∧
        (record 11 95000 5200 80).contains 95000 = true ∧
        (record 11 95000 5200 80).contains 94999 = false) := by
  refine ⟨reset_hears, by decide, rfl, rfl, by decide, by decide, rfl, rfl, ?_, by decide, by decide⟩
  show contentSum fortyRecords + 1 ≠ contentSum fortyRecords
  intro h
  have := congrArg BitVec.toNat h
  simp only [BitVec.toNat_add] at this
  have hl := (contentSum fortyRecords).isLt
  have : (1 : BitVec 16).toNat = 1 := rfl
  omega

theorem witness_EveryStepKeepsTheStore :
    let s : State := ⟨working (.erase 2 11520), [.eraseCompletion]⟩
    s.part.atWork = true ∧ s.part.store.Sound ∧ ∃ t, step s = .next t ∧ t.part.atWork = true := by
  refine ⟨by decide, fun k => ?_, _, rfl, by decide +kernel⟩
  fin_cases k <;> decide

theorem witness_ResetAndPowerLossStopThePart :
    let p := { State.reset.part with resetHeld := true }
    p.atWork = false ∧ (Instr.status .addressed [] ≠ .resetAssert) ∧
      (∀ a r, Instr.status .addressed [] ≠ .resetRelease a r) :=
  ⟨by decide, (fun h => nomatch h), fun _ _ h => nomatch h⟩

/-- A part held in RESET, one without power, and one that is both; the boot slot none, EMPTY, DAMAGED, and
VALID with its own sum or another. -/
theorem witness_StartUpByTheBootTable :
    let p := State.reset.part
    let w : Stored := ⟨fortyRecords, contentSum fortyRecords⟩
    let held := { p with resetHeld := true }
    let off := { p with powered := false }
    let store := { p.store.setSlot 5 ⟨.valid, false, [], some w⟩ with boot := some 5 }
    (held.powered = true ∧ held.resetHeld = true) ∧ (off.powered = false ∧ off.resetHeld = false) ∧
      { off with resetHeld := true }.resetHeld = true ∧ p.store.boot = none ∧
      { p.store with boot := some 5 }.boot = some 5 ∧ (p.store.slot 5).state = .empty ∧
      ((p.store.setSlot 5 ⟨.damaged, false, [], none⟩).slot 5).state = .damaged ∧
      (store.slot 5).state = .valid ∧ (store.slot 5).stored = some w ∧ contentSum w.contents = w.sum :=
  ⟨by decide, by decide, rfl, rfl, rfl, by decide, by decide, rfl, rfl, rfl⟩

theorem witness_EventsKeepTheConfiguration :
    (Instr.saveCompletion).isEvent = true ∧
      ∃ t, exec .saveCompletion (on (working (.saveWrite 2 fortyRecords 3360))) = .next t :=
  ⟨rfl, _, rfl⟩

end Sys2Proof.Tests
end

/-! The mix of R144 as a rounding of the blend: the blend is a weighted mean of the two samples, and rounding
by R145 keeps it between any two integers it lies between. -/

namespace Sys2Proof.Machine

/-- The sum that R144 divides by unity, before the half that rounds it: 32,768 times the blend. -/
def blendSum (xs xd : Sample) (u : Nat) : Int := xs.toInt * (32768 - (u : Int)) + xd.toInt * u

/-- A 32,768th part rounded to the nearest integer, an exact half upward (R145). -/
def roundHalfUp (b : Int) : Int := (b + 16384) / 32768

theorem mixSample_eq_ofInt (xs xd : Sample) (u : Nat) :
    mixSample xs xd u = BitVec.ofInt 24 (roundHalfUp (blendSum xs xd u)) := rfl

/-! ### The rounding (R145) -/

theorem roundHalfUp_nearest (b : Int) :
    2 * b - 32768 < 65536 * roundHalfUp b ∧ 65536 * roundHalfUp b ≤ 2 * b + 32768 := by
  unfold roundHalfUp
  omega

theorem le_roundHalfUp {n b : Int} (h : n * 32768 ≤ b) : n ≤ roundHalfUp b := by
  have := roundHalfUp_nearest b
  omega

theorem roundHalfUp_le {n b : Int} (h : b ≤ n * 32768) : roundHalfUp b ≤ n := by
  have := roundHalfUp_nearest b
  omega

theorem roundHalfUp_mul_unity (n : Int) : roundHalfUp (n * 32768) = n :=
  le_antisymm (roundHalfUp_le le_rfl) (le_roundHalfUp le_rfl)

/-- A blend of half an odd integer goes to the integer above it. -/
theorem roundHalfUp_half {n b : Int} (h : 2 * b = (2 * n - 1) * 32768) : roundHalfUp b = n := by
  have := roundHalfUp_nearest b
  omega

/-! ### The blend (R144) -/

/-- The two weights sum to unity, so one integer blended with itself is that integer. -/
theorem weights_sum_to_unity (n : Int) (u : Nat) : n * (32768 - (u : Int)) + n * u = n * 32768 := by ring

theorem le_blendSum {xs xd : Sample} {u : Nat} {n : Int} (hu : u ≤ 32768) (hs : n ≤ xs.toInt)
    (hd : n ≤ xd.toInt) : n * 32768 ≤ blendSum xs xd u := by
  have hw : (0 : Int) ≤ 32768 - u := by omega
  rw [← weights_sum_to_unity n u]
  exact add_le_add (mul_le_mul_of_nonneg_right hs hw) (mul_le_mul_of_nonneg_right hd u.cast_nonneg)

theorem blendSum_le {xs xd : Sample} {u : Nat} {n : Int} (hu : u ≤ 32768) (hs : xs.toInt ≤ n)
    (hd : xd.toInt ≤ n) : blendSum xs xd u ≤ n * 32768 := by
  have hw : (0 : Int) ≤ 32768 - u := by omega
  rw [← weights_sum_to_unity n u]
  exact add_le_add (mul_le_mul_of_nonneg_right hs hw) (mul_le_mul_of_nonneg_right hd u.cast_nonneg)

theorem roundHalfUp_blendSum_between (xs xd : Sample) {u : Nat} (hu : u ≤ 32768) :
    min xs.toInt xd.toInt ≤ roundHalfUp (blendSum xs xd u) ∧
      roundHalfUp (blendSum xs xd u) ≤ max xs.toInt xd.toInt :=
  ⟨le_roundHalfUp (le_blendSum hu (min_le_left ..) (min_le_right ..)),
    roundHalfUp_le (blendSum_le hu (le_max_left ..) (le_max_right ..))⟩

theorem Sample.toInt_range (x : Sample) : -8388608 ≤ x.toInt ∧ x.toInt ≤ 8388607 := by
  have hlo := x.le_toInt
  have hhi := x.toInt_lt
  omega

theorem roundHalfUp_blendSum_range (xs xd : Sample) {u : Nat} (hu : u ≤ 32768) :
    -8388608 ≤ roundHalfUp (blendSum xs xd u) ∧ roundHalfUp (blendSum xs xd u) ≤ 8388607 := by
  obtain ⟨hs, hs'⟩ := Sample.toInt_range xs
  obtain ⟨hd, hd'⟩ := Sample.toInt_range xd
  exact ⟨le_roundHalfUp (le_blendSum hu hs hd), roundHalfUp_le (blendSum_le hu hs' hd')⟩

/-! ### The mix -/

/-- No saturation: the rounded blend fits 24 bits, so the word carries it as it is (R145). -/
theorem toInt_mixSample (xs xd : Sample) {u : Nat} (hu : u ≤ 32768) :
    (mixSample xs xd u).toInt = roundHalfUp (blendSum xs xd u) := by
  obtain ⟨hlo, hhi⟩ := roundHalfUp_blendSum_range xs xd hu
  rw [mixSample_eq_ofInt]
  exact BitVec.toInt_ofInt_eq_self (by decide) hlo (Int.lt_add_one_of_le hhi)

@[simp] theorem mixSample_zero (xs xd : Sample) : mixSample xs xd 0 = xs := by
  have hb : blendSum xs xd 0 = xs.toInt * 32768 := by simp [blendSum]
  rw [mixSample_eq_ofInt, hb, roundHalfUp_mul_unity, BitVec.ofInt_toInt]

@[simp] theorem mixSample_unity (xs xd : Sample) : mixSample xs xd 32768 = xd := by
  have hb : blendSum xs xd 32768 = xd.toInt * 32768 := by simp [blendSum]
  rw [mixSample_eq_ofInt, hb, roundHalfUp_mul_unity, BitVec.ofInt_toInt]

/-- Settles O49: the word carries the rounded blend without loss, and the blend is a weighted mean of two
24-bit samples. -/
theorem mixRoundsAndStaysInRange : Obligations.MixRoundsAndStaysInRange := by
  intro xs xd u hu
  dsimp only
  rw [toInt_mixSample xs xd hu]
  obtain ⟨hlo, hhi⟩ := roundHalfUp_blendSum_range xs xd hu
  obtain ⟨hmin, hmax⟩ := roundHalfUp_blendSum_between xs xd hu
  obtain ⟨hbelow, habove⟩ := roundHalfUp_nearest (blendSum xs xd u)
  refine ⟨rfl, hbelow, habove, fun hb => roundHalfUp_half (n := 0) hb, fun hb => roundHalfUp_half (n := 2) hb,
    hlo, hhi, hmin, hmax, ?_, ?_⟩
  · rintro rfl
    exact mixSample_zero xs xd
  · rintro rfl
    exact mixSample_unity xs xd

end Sys2Proof.Machine

/-! The notice set of a part as the link shows it: what ATTN, the pending bits, the highest eligible kind and
STATUS say of it (R176, R178 to R182), and NOTICE_READ and NOTICE_MASK as answers of their block. -/

namespace Sys2Proof.Machine

/-! ### A request that leaves the group records alone -/

/-- Such a request begins no ramp, so its reply and its effect are its block's own answer (R141, R171). -/
theorem Part.handle_eq_dispatch {p : Part} {code : Byte} {body : List Byte}
    (hg : (p.dispatch code body).part.groups = p.groups) : p.handle code body = p.dispatch code body := by
  simp only [Part.handle, Part.stampRamps_same p _ hg]

/-- An addressed row that a unit hears, by its block's answer, where that begins no ramp. -/
theorem exec_addressed_of_dispatch {c : Instr} {s : State} {code : Byte} {body : List Byte} {a : Answer}
    (hc : c.request = some (code, .addressed, body)) (hs : s.hears) (hb : body.length ≤ 59)
    (ha : s.part.dispatch code body = a) (hg : a.part.groups = s.part.groups) :
    exec c s = .next (s.answered a.part code a.result a.body) := by
  subst ha
  rw [exec_request c s code .addressed body hc, s.act_addressed code body hs hb,
    Part.handle_eq_dispatch hg]

/-- A broadcast row whose CODE is not honoured leaves an IDLE unit as it is (R173). -/
theorem exec_broadcast_ignored {c : Instr} {s : State} {code : Byte} {body : List Byte}
    (hc : c.request = some (code, .broadcast, body)) (hn : broadcastCode code = false) (hs : s.hears)
    (hb : body.length ≤ 59) : exec c s = .next s := by
  obtain ⟨hw, hrx, -⟩ := hs
  rw [exec_request c s code .broadcast body hc, s.act_broadcast code body hw hrx hb, hn]
  simp [Part.setRx_idle _ hrx]

/-! ### The kinds -/

theorem allKinds_eq_finRange : allKinds = List.finRange 8 := by decide

theorem mem_allKinds (k : Fin 8) : k ∈ allKinds := allKinds_eq_finRange ▸ List.mem_finRange k

theorem find?_allKinds_eq_some_iff {f : Fin 8 → Bool} {k : Fin 8} :
    allKinds.find? f = some k ↔ f k = true ∧ ∀ j < k, f j = false := by
  rw [allKinds_eq_finRange, ← Fin.find?_eq_find?_finRange, Fin.find?_eq_some_iff]

/-- ATTN: some kind is pending and unmasked (R181). -/
theorem Part.attn_eq_true_iff {p : Part} (hw : p.atWork = true) :
    p.attn = true ↔ ∃ k : Fin 8, p.link.notices[k].isSome = true ∧ p.link.mask.getLsbD k = false := by
  simp [Part.attn, Link.masked, hw, mem_allKinds]

/-- What a NOTICE_READ without body returns: the first kind that is pending and unmasked (R179). -/
theorem Link.topKind_eq_some_iff {l : Link} {k : Fin 8} :
    l.topKind = some k ↔ l.notices[k].isSome = true ∧ l.mask.getLsbD k = false ∧
      ∀ j : Fin 8, j < k → l.notices[j] = none ∨ l.mask.getLsbD j = true := by
  simp [Link.topKind, Link.masked, find?_allKinds_eq_some_iff, and_assoc, imp_iff_not_or, or_comm]

/-! ### The pending bits (R176, R182) -/

/-- A byte summed from the bits of the kinds that `f` holds of is the byte with those bits. -/
theorem byteSum_kindBits (f : Fin 8 → Bool) :
    byteSum (allKinds.map fun k => if f k then u8 (2 ^ k.val) else 0) = Nat.ofBits f := by
  have bitValue : ∀ k : Fin 8, (if f k then u8 (2 ^ k.val) else 0).toNat = (f k).toNat * 2 ^ k.val := by
    intro k
    cases f k
    · simp
    · revert k; decide
  simp only [allKinds, List.map_cons, List.map_nil, byteSum, bitValue]
  simp [Nat.ofBits_succ, Function.comp_def]
  omega

theorem Link.pendingBits_getLsbD (l : Link) (k : Fin 8) :
    l.pendingBits.getLsbD k = l.notices[k].isSome := by
  rw [Link.pendingBits, byteSum_kindBits fun k => l.notices[k].isSome, u8, BitVec.getLsbD_ofNat,
    Nat.testBit_ofBits_lt _ _ k.isLt]
  simp

/-! ### The end of STATUS (R176, R182) -/

theorem length_offsetBytes (d : Option Int) : (offsetBytes d).length = 4 := by
  cases d <;> rfl

theorem Activity.length_bytes (a : Activity) : a.bytes.length = 2 := by
  cases a <;> rfl

/-- The last three bytes of STATUS are those of the link; twenty come before them. -/
theorem Part.statusBody_eq_append (p : Part) :
    ∃ front : List Byte, front.length = 20 ∧
      p.statusBody = front ++ [p.link.pendingBits, p.link.mask, u8 p.link.errors] := by
  refine ⟨_, ?_, rfl⟩
  simp [Preference.body, signed16, be16, length_offsetBytes, Activity.length_bytes]

theorem Part.statusBody_pendingBits (p : Part) : p.statusBody.getD 20 0 = p.link.pendingBits := by
  obtain ⟨front, hlen, h⟩ := p.statusBody_eq_append
  rw [h, List.getD_append_right _ _ _ _ hlen.le, hlen]
  rfl

theorem Part.statusBody_mask (p : Part) : p.statusBody.getD 21 0 = p.link.mask := by
  obtain ⟨front, hlen, h⟩ := p.statusBody_eq_append
  rw [h, List.getD_append_right _ _ _ _ (by omega), hlen]
  rfl

/-! ### NOTICE_READ (R179) -/

theorem Part.dispatch_noticeRead (p : Part) (body : List Byte) :
    p.dispatch 0x08 body = reqNoticeRead body p := rfl

/-- A body of one kind code reads that kind, whatever its mask. -/
theorem reqNoticeRead_kind (p : Part) (k : Fin 8) :
    reqNoticeRead [u8 (k.val + 1)] p = p.readNotice (some k) := by
  have hcode : u8 (k.val + 1) ≠ 0 ∧ slotOf (u8 (k.val + 1) - 1) = some k := by
    revert k; decide
  obtain ⟨hne, hslot⟩ := hcode
  simp only [reqNoticeRead, if_neg hne, hslot]

/-- The part with the entry of kind `k` clear. -/
def Part.clearNotice (p : Part) (k : Fin 8) : Part :=
  { p with link := { p.link with notices := p.link.notices.set k none } }

theorem Part.readNotice_pending {p : Part} {k : Fin 8} {n : Notice} (h : p.link.notices[k] = some n) :
    p.readNotice (some k) =
      ⟨p.clearNotice k, .ok, [u8 (k.val + 1), u8 n.count] ++ n.detail.bytes⟩ := by
  simp only [Part.readNotice, h, Part.clearNotice]

theorem exec_noticeRead_kind {s : State} (hs : s.hears) {k : Fin 8} {n : Notice}
    (h : s.part.link.notices[k] = some n) :
    exec (.noticeRead .addressed [u8 (k.val + 1)]) s = .next (s.answered (s.part.clearNotice k) 0x08 .ok
      ([u8 (k.val + 1), u8 n.count] ++ n.detail.bytes)) := by
  have answer : s.part.dispatch 0x08 [u8 (k.val + 1)] =
      ⟨s.part.clearNotice k, .ok, [u8 (k.val + 1), u8 n.count] ++ n.detail.bytes⟩ := by
    rw [Part.dispatch_noticeRead, reqNoticeRead_kind, Part.readNotice_pending h]
  exact exec_addressed_of_dispatch rfl hs (by simp) answer rfl

/-! ### NOTICE_MASK (R180) -/

/-- The part with its mask replaced. -/
def Part.setMask (p : Part) (m : Byte) : Part := { p with link := { p.link with mask := m } }

theorem Part.dispatch_noticeMask (p : Part) (body : List Byte) :
    p.dispatch 0x09 body = reqNoticeMask body p := rfl

theorem reqNoticeMask_read (p : Part) : reqNoticeMask [] p = ⟨p, .ok, [p.link.mask]⟩ := rfl

theorem reqNoticeMask_write (p : Part) (m : Byte) : reqNoticeMask [m] p = ⟨p.setMask m, .ok, [m]⟩ := rfl

theorem reqNoticeMask_long (p : Part) {body : List Byte} (h : 2 ≤ body.length) :
    reqNoticeMask body p = p.refuse .badLength := by
  match body, h with
  | _ :: _ :: _, _ => rfl

/-- Every NOTICE_MASK that a unit hears is answered by the Link Controller's row alone. -/
theorem exec_noticeMask {s : State} (hs : s.hears) {body : List Byte} (hb : body.length ≤ 59) {a : Answer}
    (ha : reqNoticeMask body s.part = a) (hg : a.part.groups = s.part.groups) :
    exec (.noticeMask .addressed body) s = .next (s.answered a.part 0x09 a.result a.body) :=
  exec_addressed_of_dispatch rfl hs hb ((s.part.dispatch_noticeMask body).trans ha) hg

/-- A new mask leaves the unit hearing. -/
theorem State.hears_setMask {s : State} (hs : s.hears) (m : Byte) :
    State.hears { s with part := s.part.setMask m } := hs

/-- Settles O12: the row replaces the mask alone, and ATTN, the highest eligible kind, a read by code and
STATUS are told by lemmas that hold of any notice set and any mask. -/
theorem noticeMaskIsReadAndReplaced : Obligations.NoticeMaskIsReadAndReplaced := by
  intro s hs
  refine ⟨exec_noticeMask hs (by simp) (reqNoticeMask_read s.part) rfl,
    fun m => ⟨?write, ?attn, ?top, ?byCode, ?status⟩,
    fun body hlong hb => exec_noticeMask hs hb (reqNoticeMask_long _ hlong) rfl,
    fun body hb => exec_broadcast_ignored rfl rfl hs hb⟩
  case write => exact exec_noticeMask hs (by simp) (reqNoticeMask_write s.part m) rfl
  case attn => exact (s.part.setMask m).attn_eq_true_iff hs.1
  case top => exact fun k => (s.part.setMask m).link.topKind_eq_some_iff
  case byCode => exact fun k n hn => exec_noticeRead_kind (State.hears_setMask hs m) hn
  case status =>
    exact fun k => ⟨rfl, (s.part.setMask m).link.pendingBits_getLsbD k,
      (s.part.setMask m).statusBody_pendingBits, (s.part.setMask m).statusBody_mask⟩

end Sys2Proof.Machine
